-- ==== Sys2Proof/Word.lean ====
section
/-!
DEFINITION. The word types of the TGM-8: what the spec treats as bytes, two-byte fields, slot numbers and
sets of event kinds. Times and powers are plain natural numbers (00_scope "Conventions").
-/

namespace Sys2Proof

/-- One byte of a frame: a tag, a sequence number, a code (12 "The frame"). -/
abbrev Byte := BitVec 8

/-- A field of two bytes, sent most significant byte first: a power figure of a frame (12 "The frame"). -/
abbrev Half := BitVec 16

/-- A slot, 0 to 7 (00_scope "Terms and abbreviations"). -/
abbrev Slot := Fin 8

/-- A time of the one millisecond time base, in ms (00_scope "Conventions"). -/
abbrev Time := Nat

/-- A set of event kinds: bit n stands for kind code n (12 "Reason and other codes"). -/
abbrev KindSet := BitVec 18

end Sys2Proof
end

