-- ==== Sys2Proof/Machine/Types.lean ====
section
/-!
DEFINITION. The plain data of the TGM-8's blocks: names, frames waiting to be sent, records and table entries.
A field that the spec marks as belonging to certain states stands in the constructor of those states (R2).
-/

namespace Sys2Proof.Machine

/-- The state of the part as a whole (R156). -/
inductive PartState where
  | starting
  | running
deriving DecidableEq, Repr

/-- The state of a slot (R94). -/
inductive SlotState where
  | disabled
  | vacant
  | joining
  | present
  | penalty
  | mismatch
deriving DecidableEq, Repr

/-- A slot's priority (00_scope "Terms", R113). -/
inductive SlotClass where
  | low
  | normal
  | high
  | critical
deriving DecidableEq, Repr

/-- What the Draw Monitor does on a violation (R113). -/
inductive ViolationAction where
  | notify
  | cut
deriving DecidableEq, Repr

/-- The REFUSE reasons (12 "Reason and other codes"). -/
inductive RefuseReason where
  | notReady
  | penalty
  | mismatch
  | malformed
  | tagInUse
  | slotLimit
  | beyondDeclared
  | ceiling
  | queueFull
  | displaced
  | waitLimit
  | policy
  | stale
  | noRoom
  | wrongState
  | unknownTag
deriving DecidableEq, Repr

/-- The CLOSED reasons (R23). -/
inductive ClosedReason where
  | released
  | declined
  | acceptTimeout
  | leaseExpired
  | withdrawn
  | policy
  | forced
deriving DecidableEq, Repr

/-- The CUT reasons (R87). -/
inductive CutReason where
  | shedFailed
  | overdraw
  | silence
  | immediate
  | forced
deriving DecidableEq, Repr

/-- The NAK reasons (R132). -/
inductive NakReason where
  | malformed
  | badTable
  | badIndex
  | badSlot
  | badValue
  | noContract
  | wrongState
  | busy
  | isProtected
  | notBlank
  | notValid
  | exhausted
deriving DecidableEq, Repr

/-- The error classes of a link (R179). -/
inductive LinkError where
  | framing
  | crc
deriving DecidableEq, Repr

/-- The eighteen event kinds (R146). -/
inductive EventKind where
  | restarted
  | slotJoined
  | slotLost
  | slotMismatch
  | cut
  | violation
  | overcommit
  | overcommitCleared
  | watermark
  | watermarkCleared
  | budgetStale
  | budgetResumed
  | queueTimeout
  | storeDone
  | storeFailed
  | linkErrors
  | forwardDrop
  | noticeLost
deriving DecidableEq, Repr

/-- The seven tables of READ_ENTRY (R134). -/
inductive Table where
  | contract
  | queue
  | slot
  | activePolicy
  | shadowPolicy
  | config
  | page
deriving DecidableEq, Repr

/-- The nine configuration items (R122). -/
inductive ConfigItem where
  | budgetCap
  | safeBudget
  | reserve
  | staleTimeout
  | highMark
  | lowMark
  | acceptWindow
  | probeInterval
  | eventMask
deriving DecidableEq, Repr

/-- A slot policy record: its eighteen fields (R113). -/
structure Policy where
  enabled : Bool
  cls : SlotClass
  preempt : Bool
  shedRank : Nat
  ceiling : Nat
  floor : Nat
  step : Nat
  maxContracts : Nat
  /-- In s; 0 is none. -/
  lease : Nat
  /-- In s; 0 is none. -/
  waitLimit : Nat
  /-- In ms. -/
  shedWindow : Nat
  /-- In ms; 0 is none. -/
  reportInterval : Nat
  /-- In per cent. -/
  tolerance : Nat
  debounce : Nat
  action : ViolationAction
  /-- In s. -/
  penaltyHold : Nat
  /-- 0 is any class. -/
  requiredClass : Byte
  forward : Bool
deriving DecidableEq, Repr

/-- The nine live configuration items (R122). -/
structure LiveItems where
  budgetCap : Nat
  safeBudget : Nat
  reserve : Nat
  staleTimeout : Nat
  highMark : Nat
  lowMark : Nat
  acceptWindow : Nat
  probeInterval : Nat
  eventMask : KindSet
deriving DecidableEq, Repr

/-- What a HELD or SHEDDING contract holds beside its amount (R2). -/
structure Grant where
  leaseExpiry : Option Time
  overCount : Nat
  reportDeadline : Option Time
deriving DecidableEq, Repr

/-- What a SHEDDING contract holds in addition (R2). -/
structure Shed where
  target : Nat
  deadline : Time
  forced : Bool
deriving DecidableEq, Repr

/-- The three states of a contract, each with the fields present in it (R2). -/
inductive ContractState where
  | offered (offerDeadline : Time)
  | held (grant : Grant)
  | shedding (grant : Grant) (shed : Shed)
deriving DecidableEq, Repr

/-- An entry of the contract table (R2). -/
structure Contract where
  slot : Slot
  tag : Byte
  amount : Nat
  state : ContractState
deriving DecidableEq, Repr

/-- An entry of the pending claim queue (R27). -/
structure QueueEntry where
  slot : Slot
  tag : Byte
  want : Nat
  least : Nat
  waitDeadline : Option Time
  reliefRequested : Bool
deriving DecidableEq, Repr

/-- The preempt request record (R57, R75). -/
structure PreemptRecord where
  slot : Slot
  tag : Byte
  cls : SlotClass
  need : Nat
deriving DecidableEq, Repr

/-- An order waiting in a slot's order list (R104). -/
inductive Order where
  | offer (tag : Byte) (amount lease : Nat)
  | shed (tag : Byte) (target window : Nat)
  | closed (tag : Byte) (reason : ClosedReason)
  | cut (reason : CutReason)
  | probe
deriving DecidableEq, Repr

/-- What an order concerns: at most one unsent order stands for each (R104). -/
inductive Matter where
  | tag (t : Byte)
  | cut
  | probe
deriving DecidableEq, Repr

/-- An answer waiting in a slot's reply queue (R106). -/
inductive Reply where
  | refuse (tag : Byte) (reason : RefuseReason)
  | queued (tag : Byte) (position : Nat)
  | granted (tag : Byte) (amount : Nat)
  | closed (tag : Byte) (reason : ClosedReason)
deriving DecidableEq, Repr

/-- A DATA frame of a downstream data queue (R107, R171). -/
structure DataFrame where
  seq : Byte
  payload : List Byte
deriving DecidableEq, Repr

/-- A frame the part sends on a slot link (R108). -/
inductive SlotFrame where
  | order (o : Order)
  | reply (r : Reply)
  | data (d : DataFrame)
deriving DecidableEq, Repr

/-- A transmission in progress on a slot link: the frame and its bytes on the line (R108, R180). -/
structure SlotTransmission where
  frame : SlotFrame
  bytes : List Byte
deriving DecidableEq, Repr

/-- What a module declares in its PRESENT frames (R94). -/
structure Declared where
  cls : Byte
  peak : Nat
deriving DecidableEq, Repr

/-- A link's receiver: the bytes of the frame in progress, none while hunting, and the gap deadline (R176). -/
structure Receiver where
  bytes : List Byte
  gapDeadline : Option Time
deriving DecidableEq, Repr

/-- The state of one Slot Port (R94). -/
structure SlotPort where
  state : SlotState
  joinCount : Nat
  missCount : Nat
  probeDeadline : Option Time
  answerDeadline : Option Time
  penaltyEnd : Option Time
  declared : Option Declared
  framingErrors : Nat
  crcErrors : Nat
  strayFrames : Nat
  forwardDrops : Nat
  orders : List Order
  replies : List Reply
  downstream : List DataFrame
  /-- The SLOT_EN line (R103). -/
  enable : Bool
  transmission : Option SlotTransmission
  receiver : Receiver
deriving DecidableEq, Repr

/-- Where a SENT notice stands with the upstream transmitter (R152, R153). -/
inductive Progress where
  | offered
  | transmitting
  | awaiting (retransmitDeadline : Time)
deriving DecidableEq, Repr

/-- The state of a notice record (R149). -/
inductive NoticeState where
  | waiting
  | sent (sends : Nat) (progress : Progress)
deriving DecidableEq, Repr

/-- The origin of an event, where it has one (R146). -/
inductive Origin where
  | slot (i : Slot)
  | supply
deriving DecidableEq, Repr

/-- A notice record (R149); `reserved` says whether it stands in the reserved place. -/
structure Notice where
  seq : Byte
  kind : EventKind
  origin : Option Origin
  count : Nat
  detail : Nat
  reserved : Bool
  state : NoticeState
deriving DecidableEq, Repr

/-- The outcome of a command: ACK with its data, or NAK with a reason (R132). -/
inductive Settle where
  | ack (data : List Byte)
  | nak (reason : NakReason)
deriving DecidableEq, Repr

/-- An ANSWER (R132). -/
structure Answer where
  seq : Byte
  settle : Settle
deriving DecidableEq, Repr

/-- A DATA_UP frame of the upstream forward queue (R168). -/
structure DataUp where
  slot : Slot
  seq : Byte
  payload : List Byte
deriving DecidableEq, Repr

/-- A frame the part sends on the supply link (R173). -/
inductive UpFrame where
  | answer (a : Answer)
  | notice (n : Notice)
  | dataUp (d : DataUp)
deriving DecidableEq, Repr

/-- A transmission in progress on the supply link (R173, R180). -/
structure UpTransmission where
  frame : UpFrame
  bytes : List Byte
deriving DecidableEq, Repr

/-- An image: eight policy records, the configuration items, a generation, and the integrity check computed over
them when the image is written (R156). -/
structure Image where
  policies : Vector Policy 8
  items : LiveItems
  generation : Nat
  check : Nat
deriving DecidableEq, Repr

/-- A page of the profile store, with its image while VALID (R156, R157). -/
inductive Page where
  | blank
  | valid (image : Image)
  | damaged
deriving DecidableEq, Repr

/-- The store operation in progress (R156). -/
inductive StoreOp where
  | erase (page : Slot)
  | save (page : Slot) (image : Image)
  | load (page : Slot)
deriving DecidableEq, Repr

/-- The Supply Port: error counts, transmitter, receiver (00_scope "Blocks", R179, R173, R176). -/
structure SupplyPort where
  framingErrors : Nat
  crcErrors : Nat
  transmission : Option UpTransmission
  receiver : Receiver
deriving DecidableEq, Repr

/-- The Admission Controller: contract table, pending claim queue in its two orders, committed power
(R1, R4, R27, R28). -/
structure Admission where
  contracts : List Contract
  /-- In service order. -/
  queue : List QueueEntry
  /-- The slot and tag of each entry, in arrival order. -/
  arrival : List (Slot × Byte)
  committed : Nat
deriving DecidableEq, Repr

/-- The Budget Monitor (R44). -/
structure BudgetMonitor where
  announced : Option Nat
  lastSequence : Option Byte
  staleDeadline : Option Time
  stale : Bool
  effective : Nat
  limit : Nat
  highMark : Nat
  lowMark : Nat
  overcommit : Bool
  watermark : Bool
deriving DecidableEq, Repr

/-- The Shed Engine (R57). -/
structure ShedEngine where
  pledged : Nat
  record : Option PreemptRecord
deriving DecidableEq, Repr

/-- The Policy Tables (R112). -/
structure PolicyTables where
  active : Vector Policy 8
  shadow : Vector Policy 8
  dirty : Bool
  items : LiveItems
deriving DecidableEq, Repr

/-- The Management Unit (R128). -/
structure ManagementUnit where
  cache : Option Answer
  answers : List Answer
  restartWait : Bool
deriving DecidableEq, Repr

/-- The Notice Unit (R145). -/
structure NoticeUnit where
  flags : KindSet
  queue : List Notice
  nextSeq : Byte
deriving DecidableEq, Repr

/-- The Profile Store (R156). -/
structure ProfileStore where
  pages : Vector Page 8
  op : Option StoreOp
  noImage : Bool
  loadedPage : Option Slot
deriving DecidableEq, Repr

end Sys2Proof.Machine
end

