-- ==== Sys2Proof/Config.lean ====
section
/-!
DEFINITION. What the spec fixes for every TGM-8: capacities of its tables and queues, and the times that no
configuration item sets; and the one free value, the integrity check of an image (notes/assumptions/1.md).
-/

namespace Sys2Proof.Config

/-- Places of the contract table (R1). -/
def contractPlaces : Nat := 24
/-- Places of the pending claim queue (R27). -/
def queuePlaces : Nat := 16
/-- Tag places of an order list (R104). -/
def tagPlaces : Nat := 4
/-- Places of a reply queue (R106). -/
def replyPlaces : Nat := 8
/-- Places of a downstream data queue (R107). -/
def downstreamPlaces : Nat := 4
/-- Places of the answer queue (R128). -/
def answerPlaces : Nat := 4
/-- General places of the notice queue; one reserved place stands beside them (R149). -/
def generalPlaces : Nat := 31
/-- Places of the upstream forward queue (R168). -/
def forwardPlaces : Nat := 32
/-- Transmissions of one notice record (R153). -/
def maxSends : Nat := 4
/-- Length of the answer window of a PROBE, in ms (R96). -/
def answerWindow : Nat := 5
/-- Unanswered probes in a row that make a slot LOST (R100). -/
def lostMisses : Nat := 3
/-- From the end of a NOTICE's transmission to its retransmit deadline, in ms (R152). -/
def retransmitDelay : Nat := 100
/-- The gap that abandons a frame, in ms (R176). -/
def byteGap : Nat := 1
/-- The largest value of a saturating count, of a power figure and of an event's detail (R94, R179). -/
def maxCount : Nat := 65535
/-- The largest count of a notice record (R149). -/
def maxMerged : Nat := 255
/-- The largest generation of a page (R156). -/
def maxGeneration : Nat := 0xFFFFFFFF
/-- The number of event kinds (R146). -/
def eventKinds : Nat := 18

/-- The integrity check computed over an image's policy records, its configuration items and its generation (R156). A
free value: the spec states neither how the check is computed nor how wide it is (notes/assumptions/22.md). -/
opaque imageCheck (policies : Vector Machine.Policy 8) (items : Machine.LiveItems) (generation : Nat) : Nat

end Sys2Proof.Config
end

