-- ==== Sys2Proof/Syntax.lean ====
section
/-!
DEFINITION. The commands of the TGM-8: one constructor for each row of spec/opcode_table.json, in the table's
order. A command is an accepted frame of a link, a failing reception, an expiry, a completion or a reset.
A module's frame carries the slot of the link it came on; a management command carries its header's sequence.
-/

namespace Sys2Proof

/-- One of the nine links of the part (12 "The frame"). -/
inductive Link where
  | slot (i : Slot)
  | supply
deriving DecidableEq, Repr

/-- The urgency of a BUDGET frame and of a budget round (R47, R59). -/
inductive Urgency where
  | normal
  | immediate
deriving DecidableEq, Repr

/-- The commands, one constructor per row of spec/opcode_table.json. -/
inductive Instr where
  /-- CLAIM (R7): tag, want and least, before rounding. -/
  | claim (slot : Slot) (tag : Byte) (want least : Half)
  /-- ACCEPT (R11). -/
  | accept (slot : Slot) (tag : Byte)
  /-- DECLINE (R13). -/
  | decline (slot : Slot) (tag : Byte)
  /-- RELEASE (R14). -/
  | release (slot : Slot) (tag : Byte)
  /-- ADJUST (R15): the new total asked for. -/
  | adjust (slot : Slot) (tag : Byte) (amount : Half)
  /-- RENEW (R19). -/
  | renew (slot : Slot) (tag : Byte)
  /-- REPORT (R21): the measured draw. -/
  | report (slot : Slot) (tag : Byte) (measured : Half)
  /-- COMPLY (R68). -/
  | comply (slot : Slot) (tag : Byte)
  /-- PRESENT (R97): declared class and declared peak. -/
  | present (slot : Slot) (cls : Byte) (peak : Half)
  /-- DATA (R169): the header's sequence and the payload. -/
  | data (slot : Slot) (seq : Byte) (payload : List Byte)
  /-- FRAME_RECEIVE_ERROR (R176, R179): the bytes that arrive on the link. -/
  | frameReceiveError (link : Link) (bytes : List Byte)
  /-- BYTE_GAP_TIMEOUT (R176). -/
  | byteGapTimeout (link : Link)
  /-- BUDGET (R45): the header's sequence, the announced budget, the urgency. -/
  | budget (seq : Byte) (amount : Half) (urgency : Urgency)
  /-- NOTICE_ACK (R154): the acknowledged seq, from the payload. -/
  | noticeAck (seq : Byte)
  /-- DATA_DOWN (R171): the header's sequence, the slot byte and the payload after it. -/
  | dataDown (seq : Byte) (slot : Byte) (payload : List Byte)
  /-- QUERY_STATUS (R133). -/
  | queryStatus (seq : Byte)
  /-- READ_ENTRY (R134): table code and index. -/
  | readEntry (seq : Byte) (table index : Byte)
  /-- WRITE_POLICY (R114): slot byte and the 26 bytes of the record. -/
  | writePolicy (seq : Byte) (slot : Byte) (record : List Byte)
  /-- DISCARD (R115). -/
  | discard (seq : Byte)
  /-- COMMIT (R117). -/
  | commit (seq : Byte)
  /-- SET_CONFIG (R123): item code and the payload after it (a value, or count and kind codes). -/
  | setConfig (seq : Byte) (item : Byte) (body : List Byte)
  /-- CLEAR_EVENTS (R136): the count byte and the kind codes after it. -/
  | clearEvents (seq : Byte) (count : Byte) (kinds : List Byte)
  /-- FORCE_SHED (R72). -/
  | forceShed (seq : Byte) (slot tag : Byte) (target : Half)
  /-- FORCE_CLOSE (R137). -/
  | forceClose (seq : Byte) (slot tag : Byte)
  /-- FORCE_CUT (R139). -/
  | forceCut (seq : Byte) (slot : Byte)
  /-- PORT_RESET (R109, R140). -/
  | portReset (seq : Byte) (slot : Byte)
  /-- STORE_ERASE (R159). -/
  | storeErase (seq : Byte) (page : Byte)
  /-- STORE_SAVE (R160). -/
  | storeSave (seq : Byte) (page : Byte)
  /-- STORE_LOAD (R162). -/
  | storeLoad (seq : Byte) (page : Byte)
  /-- RESTART (R141). -/
  | restart (seq : Byte)
  /-- OFFER_DEADLINE (R10): the offer deadline of the slot's contract under the tag passes. -/
  | offerDeadline (slot : Slot) (tag : Byte)
  /-- LEASE_EXPIRY (R20). -/
  | leaseExpiry (slot : Slot) (tag : Byte)
  /-- WAIT_DEADLINE (R34): the wait deadline of the slot's queued claim under the tag passes. -/
  | waitDeadline (slot : Slot) (tag : Byte)
  /-- STALE_DEADLINE (R48). -/
  | staleDeadline
  /-- SHED_DEADLINE (R70). -/
  | shedDeadline (slot : Slot) (tag : Byte)
  /-- REPORT_DEADLINE (R84). -/
  | reportDeadline (slot : Slot) (tag : Byte)
  /-- PENALTY_END_TIME (R91). -/
  | penaltyEndTime (slot : Slot)
  /-- PROBE_DEADLINE (R96, R99). -/
  | probeDeadline (slot : Slot)
  /-- ANSWER_DEADLINE (R97, R98, R99). -/
  | answerDeadline (slot : Slot)
  /-- RETRANSMIT_DEADLINE (R153). -/
  | retransmitDeadline
  /-- STORE_ERASE_COMPLETION (R159). -/
  | storeEraseCompletion
  /-- STORE_SAVE_COMPLETION (R161): whether the written page reads back as the captured image. -/
  | storeSaveCompletion (asWritten : Bool)
  /-- STORE_LOAD_COMPLETION (R162). -/
  | storeLoadCompletion
  /-- SLOT_TRANSMISSION_BEGIN (R108). -/
  | slotTransmissionBegin (slot : Slot)
  /-- SLOT_TRANSMISSION_SENT (R108). -/
  | slotTransmissionSent (slot : Slot)
  /-- UPSTREAM_TRANSMISSION_BEGIN (R173). -/
  | upstreamTransmissionBegin
  /-- UPSTREAM_TRANSMISSION_SENT (R152). -/
  | upstreamTransmissionSent
  /-- RESTART_TAKES_EFFECT (R141): the strap levels, and the pages that read back as written (bit p for page p). -/
  | restartTakesEffect (straps : BitVec 2) (asWritten : BitVec 8)
  /-- HARD_RESET (R165): the strap levels, and the pages that read back as written (bit p for page p). -/
  | hardReset (straps : BitVec 2) (asWritten : BitVec 8)
  /-- START_UP_SCAN_END (R166). -/
  | startUpScanEnd
deriving DecidableEq, Repr

end Sys2Proof
end

