-- ==== Sys2Proof/WellFormed.lean ====
section
/-!
DEFINITION. Well-formed commands: those whose operands a frame of their kind can carry, by the kind table's
payload lengths (12 "Kind codes", R178 check 3). Every other operand is bounded by its type.
-/

namespace Sys2Proof

/-- The item code of EVENT_MASK (12 "Reason and other codes"). -/
def eventMaskItem : Byte := 9

/-- Check 3 of R178 for SET_CONFIG, on the payload after the item byte: 1 to 31 bytes for EVENT_MASK,
exactly 2 otherwise. -/
def configBodyFits (item : Byte) (body : List Byte) : Bool :=
  if item = eventMaskItem then 1 ≤ body.length && body.length ≤ 31 else body.length == 2

/-- The payload lengths of the kind table, for the commands whose operands are lists of bytes. The bytes of
one FRAME_RECEIVE_ERROR are never none and at most a frame's 40 (12 "The frame"). -/
def Instr.wellFormed : Instr → Bool
  | .data _ _ payload => payload.length ≤ 31
  | .dataDown _ _ payload => payload.length ≤ 31
  | .writePolicy _ _ record => record.length == 26
  | .setConfig _ item body => configBodyFits item body
  | .clearEvents _ _ kinds => kinds.length ≤ 31
  | .frameReceiveError _ bytes => 1 ≤ bytes.length && bytes.length ≤ 40
  | .claim .. | .accept .. | .decline .. | .release .. | .adjust .. | .renew .. | .report .. | .comply ..
  | .present .. | .byteGapTimeout .. | .budget .. | .noticeAck .. | .queryStatus .. | .readEntry ..
  | .discard .. | .commit .. | .forceShed .. | .forceClose .. | .forceCut .. | .portReset .. | .storeErase ..
  | .storeSave .. | .storeLoad .. | .restart .. | .offerDeadline .. | .leaseExpiry .. | .waitDeadline ..
  | .staleDeadline | .shedDeadline .. | .reportDeadline .. | .penaltyEndTime .. | .probeDeadline ..
  | .answerDeadline .. | .retransmitDeadline | .storeEraseCompletion | .storeSaveCompletion ..
  | .storeLoadCompletion | .slotTransmissionBegin .. | .slotTransmissionSent .. | .upstreamTransmissionBegin
  | .upstreamTransmissionSent | .restartTakesEffect .. | .hardReset .. | .startUpScanEnd => true

end Sys2Proof
end

