-- ==== Sys2Proof/Machine/Factory.lean ====
section
/-!
DEFINITION. The factory image, the built-in defaults and the reset values of each block (R126, R122 and the
"State after reset" section of each chapter).
-/

namespace Sys2Proof.Machine

/-- The slot record of the factory image (R126). -/
def factoryPolicy : Policy where
  enabled := true
  cls := .normal
  preempt := false
  shedRank := 0
  ceiling := 600
  floor := 0
  step := 10
  maxContracts := 1
  lease := 0
  waitLimit := 30
  shedWindow := 500
  reportInterval := 0
  tolerance := 10
  debounce := 3
  action := .notify
  penaltyHold := 30
  requiredClass := 0
  forward := true

/-- The built-in default record: the factory record with enabled no (R126). -/
def defaultPolicy : Policy := { factoryPolicy with enabled := false }

/-- The configuration defaults; LINK_ERRORS (code 15) and FORWARD_DROP (code 16) are masked (R122). -/
def defaultItems : LiveItems where
  budgetCap := 65535
  safeBudget := 0
  reserve := 0
  staleTimeout := 2000
  highMark := 90
  lowMark := 80
  acceptWindow := 250
  probeInterval := 20
  eventMask := 0x18000

/-- An image as it is written: closed by the integrity check computed over its contents (R156, R160). -/
def Image.stamped (policies : Vector Policy 8) (items : LiveItems) (generation : Nat) : Image :=
  ⟨policies, items, generation, Config.imageCheck policies items generation⟩

/-- The factory image of page 0, with generation 0 (R126). -/
def factoryImage : Image := .stamped (Vector.replicate 8 factoryPolicy) defaultItems 0

/-- Page 0 leaves the factory VALID with the factory image (R157). DESIGN CHOICE: the spec does not say how
pages 1 to 7 leave it; they are BLANK (notes/assumptions/4.md). -/
def factoryPages : Vector Page 8 := (Vector.replicate 8 Page.blank).set 0 (.valid factoryImage)

/-- A receiver that hunts, with no gap timer (R183). -/
def huntingReceiver : Receiver := ⟨[], none⟩

/-- A Slot Port after a reset (R111, R183). -/
def resetPort : SlotPort where
  state := .disabled
  joinCount := 0
  missCount := 0
  probeDeadline := none
  answerDeadline := none
  penaltyEnd := none
  declared := none
  framingErrors := 0
  crcErrors := 0
  strayFrames := 0
  forwardDrops := 0
  orders := []
  replies := []
  downstream := []
  enable := false
  transmission := none
  receiver := huntingReceiver

/-- The Supply Port after a reset (R183). -/
def resetSupply : SupplyPort := ⟨0, 0, none, huntingReceiver⟩

/-- The Admission Controller after a reset (R26, R43). -/
def resetAdmission : Admission := ⟨[], [], [], 0⟩

/-- The Budget Monitor after a reset (R55). DESIGN CHOICE: R55 states no value for the effective budget, the
limit and the marks before the scan's end; they are 0 (notes/assumptions/3.md). -/
def resetBudget : BudgetMonitor where
  announced := none
  lastSequence := none
  staleDeadline := none
  stale := true
  effective := 0
  limit := 0
  highMark := 0
  lowMark := 0
  overcommit := false
  watermark := false

/-- The Shed Engine after a reset (R78). -/
def resetShedEngine : ShedEngine := ⟨0, none⟩

/-- The Policy Tables while the part is STARTING. DESIGN CHOICE: no block reads them until the scan's end
places them (R127); they hold the built-in defaults (notes/assumptions/3.md). -/
def resetPolicyTables : PolicyTables where
  active := Vector.replicate 8 defaultPolicy
  shadow := Vector.replicate 8 defaultPolicy
  dirty := false
  items := defaultItems

/-- The Management Unit after a reset (R144). -/
def resetManagement : ManagementUnit := ⟨none, [], false⟩

/-- The Notice Unit after a reset (R155). -/
def resetNotices : NoticeUnit := ⟨0, [], 0⟩

end Sys2Proof.Machine
end

