-- ==== Sys2Proof/Machine/State.lean ====
section
/-!
DEFINITION. The state of the TGM-8: every piece of state the spec gives each block, the commands that wait,
and the two kinds of stop (neither is ever taken by a meaning).
-/

namespace Sys2Proof.Machine

/-- The whole machine. One field for each block of 00_scope "Blocks", beside the time base, the waiting
commands, the part state (R156) and the strap value kept since the last start-up (R181). -/
structure State where
  /-- The present time, in ms of the time base (00_scope "Time"). -/
  now : Time
  /-- The model's own: the commands that wait, first in, first out. -/
  pending : List Instr
  part : PartState
  straps : BitVec 2
  ports : Vector SlotPort 8
  supply : SupplyPort
  adm : Admission
  bud : BudgetMonitor
  eng : ShedEngine
  pol : PolicyTables
  man : ManagementUnit
  ntc : NoticeUnit
  store : ProfileStore
  /-- The upstream forward queue of the Forwarding Unit (R168). -/
  forward : List DataUp
deriving DecidableEq, Repr

/-- The faults of the machine. The spec gives the part none: every command has an effect or no effect in every
state, so no constructor exists and no step answers a fault (safe). -/
inductive Fault where
deriving DecidableEq, Repr

/-- The refusals of the machine. -/
inductive Refusal where
  /-- Raised by exec alone, for a command whose meaning is not written yet; safe. No arm raises it now. -/
  | notModelled (mnemonic : String)
deriving DecidableEq, Repr

/-- The machine right after a hard reset: STARTING, every block at its chapter's reset values (R26, R43, R55,
R78, R93, R111, R127, R144, R155, R167, R175, R183), the pages as they leave the factory (R157), straps read
as 0. DESIGN CHOICE: the time base starts at 0 and the straps at 0 (notes/assumptions/3.md). -/
def State.reset : State where
  now := 0
  pending := []
  part := .starting
  straps := 0
  ports := Vector.replicate 8 resetPort
  supply := resetSupply
  adm := resetAdmission
  bud := resetBudget
  eng := resetShedEngine
  pol := resetPolicyTables
  man := resetManagement
  ntc := resetNotices
  store := ⟨factoryPages, none, false, none⟩
  forward := []

end Sys2Proof.Machine
end

