-- ==== Sys2Proof/Machine/Codes.lean ====
section
/-!
DEFINITION. The codes that stand in frames and in ANSWER data (12 "Reason and other codes"), and the sets of
event kinds in which bit n stands for kind code n.
-/

namespace Sys2Proof.Machine

/-- 12 "The other codes": the slot states. -/
def SlotState.code : SlotState → Nat
  | .disabled => 0
  | .vacant => 1
  | .joining => 2
  | .present => 3
  | .penalty => 4
  | .mismatch => 5

/-- The classes by their number, 0 (LOW) to 3 (CRITICAL) (R113). -/
def SlotClass.code : SlotClass → Nat
  | .low => 0
  | .normal => 1
  | .high => 2
  | .critical => 3

/-- The class that a record's class byte names (R113). -/
def SlotClass.ofCode? : Nat → Option SlotClass
  | 0 => some .low
  | 1 => some .normal
  | 2 => some .high
  | 3 => some .critical
  | _ => none

/-- 12 "The policy record": 0 NOTIFY, 1 CUT. -/
def ViolationAction.code : ViolationAction → Nat
  | .notify => 0
  | .cut => 1

/-- The action that a record's violation-action byte names (R114). -/
def ViolationAction.ofCode? : Nat → Option ViolationAction
  | 0 => some .notify
  | 1 => some .cut
  | _ => none

/-- The REFUSE column of 12 "Reason and other codes". -/
def RefuseReason.code : RefuseReason → Nat
  | .notReady => 1
  | .penalty => 2
  | .mismatch => 3
  | .malformed => 4
  | .tagInUse => 5
  | .slotLimit => 6
  | .beyondDeclared => 7
  | .ceiling => 8
  | .queueFull => 9
  | .displaced => 10
  | .waitLimit => 11
  | .policy => 12
  | .stale => 13
  | .noRoom => 14
  | .wrongState => 15
  | .unknownTag => 16

/-- The CLOSED column of 12 "Reason and other codes". -/
def ClosedReason.code : ClosedReason → Nat
  | .released => 1
  | .declined => 2
  | .acceptTimeout => 3
  | .leaseExpired => 4
  | .withdrawn => 5
  | .policy => 6
  | .forced => 7

/-- The CUT column of 12 "Reason and other codes". -/
def CutReason.code : CutReason → Nat
  | .shedFailed => 1
  | .overdraw => 2
  | .silence => 3
  | .immediate => 4
  | .forced => 5

/-- The NAK column of 12 "Reason and other codes". -/
def NakReason.code : NakReason → Nat
  | .malformed => 1
  | .badTable => 2
  | .badIndex => 3
  | .badSlot => 4
  | .badValue => 5
  | .noContract => 6
  | .wrongState => 7
  | .busy => 8
  | .isProtected => 9
  | .notBlank => 10
  | .notValid => 11
  | .exhausted => 12

/-- The error classes: framing 1 and CRC 2 (R179). -/
def LinkError.code : LinkError → Nat
  | .framing => 1
  | .crc => 2

/-- The event kind codes (12 "Reason and other codes"). -/
def EventKind.code : EventKind → Nat
  | .restarted => 0
  | .slotJoined => 1
  | .slotLost => 2
  | .slotMismatch => 3
  | .cut => 4
  | .violation => 5
  | .overcommit => 6
  | .overcommitCleared => 7
  | .watermark => 8
  | .watermarkCleared => 9
  | .budgetStale => 10
  | .budgetResumed => 11
  | .queueTimeout => 12
  | .storeDone => 13
  | .storeFailed => 14
  | .linkErrors => 15
  | .forwardDrop => 16
  | .noticeLost => 17

/-- The table that a READ_ENTRY's table code names (R134). -/
def Table.ofCode? : Nat → Option Table
  | 1 => some .contract
  | 2 => some .queue
  | 3 => some .slot
  | 4 => some .activePolicy
  | 5 => some .shadowPolicy
  | 6 => some .config
  | 7 => some .page
  | _ => none

/-- The number of indices of a table: its index range is 0 to one less (R134). -/
def Table.size : Table → Nat
  | .contract => Config.contractPlaces
  | .queue => Config.queuePlaces
  | .config => 1
  | .slot | .activePolicy | .shadowPolicy | .page => 8

/-- The item that a SET_CONFIG's item code names (R123). -/
def ConfigItem.ofCode? : Nat → Option ConfigItem
  | 1 => some .budgetCap
  | 2 => some .safeBudget
  | 3 => some .reserve
  | 4 => some .staleTimeout
  | 5 => some .highMark
  | 6 => some .lowMark
  | 7 => some .acceptWindow
  | 8 => some .probeInterval
  | 9 => some .eventMask
  | _ => none

/-- The origin byte of a NOTICE: 0 to 7, 8 for the supply link, 0xFF when absent. -/
def originCode : Option Origin → Nat
  | some (.slot i) => i.val
  | some .supply => 8
  | none => 0xFF

/-- The contract states: OFFERED 0, HELD 1, SHEDDING 2. -/
def ContractState.code : ContractState → Nat
  | .offered _ => 0
  | .held _ => 1
  | .shedding _ _ => 2

/-- The page states: BLANK 0, VALID 1, DAMAGED 2. -/
def Page.code : Page → Nat
  | .blank => 0
  | .valid _ => 1
  | .damaged => 2

/-- A set of kinds with the kind of a code added. -/
def addCode (set : KindSet) (code : Nat) : KindSet := set ||| (1#18 <<< code)

/-- A set of kinds with a kind added. -/
def addKind (set : KindSet) (k : EventKind) : KindSet := addCode set k.code

/-- Whether a set of kinds holds a kind. -/
def hasKind (set : KindSet) (k : EventKind) : Bool := set.getLsbD k.code

/-- The set that a list of kind codes names; none when a code names none of the eighteen kinds
(R123 check 2, R136). A code named twice is taken once. -/
def kindSetOf? : List Byte → Option KindSet
  | [] => some 0
  | c :: rest => if c.toNat < Config.eventKinds then (kindSetOf? rest).map (addCode · c.toNat) else none

/-- The check of form of R132: the count is at most 18 and agrees with the list. -/
def listFormOk (count : Byte) (kinds : List Byte) : Bool :=
  count.toNat ≤ Config.eventKinds && count.toNat == kinds.length

end Sys2Proof.Machine
end

