-- ==== Sys2Proof/Machine/Operands.lean ====
section
/-!
DEFINITION. How the operands of commands are read and rounded: two- and four-byte figures, rounding to a slot's
step (R5), the policy record's layout and ranges (R113, 12 "The policy record"), the ranges of the
configuration items (R122, R123).
-/

namespace Sys2Proof.Machine

/-- A figure in one byte. -/
def byteOf (n : Nat) : Byte := BitVec.ofNat 8 n

/-- A figure in two bytes, most significant first (12 "The frame"). -/
def bytes2 (n : Nat) : List Byte := [byteOf (n / 256), byteOf n]

/-- A figure in four bytes, most significant first. -/
def bytes4 (n : Nat) : List Byte := [byteOf (n / 16777216), byteOf (n / 65536), byteOf (n / 256), byteOf n]

/-- A set of kinds in three bytes, most significant first. -/
def bytes3 (n : Nat) : List Byte := [byteOf (n / 65536), byteOf (n / 256), byteOf n]

/-- The figure that two bytes carry, most significant first. -/
def figure2 (hi lo : Byte) : Nat := hi.toNat * 256 + lo.toNat

/-- The two-byte field that two bytes carry. -/
def half2 (hi lo : Byte) : Half := hi ++ lo

/-- A yes/no field: 0 for no and 1 for yes. -/
def boolCode (b : Bool) : Nat := if b then 1 else 0

/-- The answer a yes/no byte names (R114). -/
def boolOfCode? : Nat → Option Bool
  | 0 => some false
  | 1 => some true
  | _ => none

/-- The smallest multiple of the step that is not less than the figure (00_scope "Terms"). -/
def roundUp (step n : Nat) : Nat := (n + (step - 1)) / step * step

/-- The largest multiple of the step that is not greater than the figure (00_scope "Terms"). -/
def roundDown (step n : Nat) : Nat := n / step * step

/-- A want, rounded up to the step; above 65535 it is replaced by 65535 rounded down to the step (R5). -/
def roundWant (step want : Nat) : Nat :=
  if roundUp step want ≤ Config.maxCount then roundUp step want else roundDown step Config.maxCount

/-- A record is valid: every field in its range and the floor at most the ceiling (R113). -/
def Policy.valid (p : Policy) : Bool :=
  p.shedRank ≤ 7 && p.ceiling ≤ 65535 && p.floor ≤ p.ceiling && (1 ≤ p.step && p.step ≤ 1000)
    && (1 ≤ p.maxContracts && p.maxContracts ≤ 4) && p.lease ≤ 3600 && p.waitLimit ≤ 600
    && (50 ≤ p.shedWindow && p.shedWindow ≤ 5000)
    && (p.reportInterval == 0 || (100 ≤ p.reportInterval && p.reportInterval ≤ 10000))
    && p.tolerance ≤ 50 && (1 ≤ p.debounce && p.debounce ≤ 8)
    && (1 ≤ p.penaltyHold && p.penaltyHold ≤ 600)

/-- The 26 bytes of a record (12 "The policy record"). -/
def Policy.bytes (p : Policy) : List Byte :=
  [byteOf (boolCode p.enabled), byteOf p.cls.code, byteOf (boolCode p.preempt), byteOf p.shedRank]
    ++ bytes2 p.ceiling ++ bytes2 p.floor ++ bytes2 p.step ++ [byteOf p.maxContracts] ++ bytes2 p.lease
    ++ bytes2 p.waitLimit ++ bytes2 p.shedWindow ++ bytes2 p.reportInterval
    ++ [byteOf p.tolerance, byteOf p.debounce, byteOf p.action.code] ++ bytes2 p.penaltyHold
    ++ [p.requiredClass, byteOf (boolCode p.forward)]

/-- The record that 26 bytes carry, if each enumerated field's byte names a value and the record is valid
(R114 check 2). -/
def Policy.ofBytes? : List Byte → Option Policy
  | [en, cl, pr, rk, ce1, ce0, fl1, fl0, st1, st0, mx, le1, le0, wl1, wl0, sw1, sw0, ri1, ri0, tol, deb, act,
      ph1, ph0, req, fwd] => do
    let enabled ← boolOfCode? en.toNat
    let cls ← SlotClass.ofCode? cl.toNat
    let preempt ← boolOfCode? pr.toNat
    let action ← ViolationAction.ofCode? act.toNat
    let forward ← boolOfCode? fwd.toNat
    let p : Policy :=
      { enabled, cls, preempt, shedRank := rk.toNat, ceiling := figure2 ce1 ce0, floor := figure2 fl1 fl0,
        step := figure2 st1 st0, maxContracts := mx.toNat, lease := figure2 le1 le0,
        waitLimit := figure2 wl1 wl0, shedWindow := figure2 sw1 sw0, reportInterval := figure2 ri1 ri0,
        tolerance := tol.toNat, debounce := deb.toNat, action, penaltyHold := figure2 ph1 ph0,
        requiredClass := req, forward }
    if p.valid then some p else none
  | _ => none

/-- The range of a numeric item, taken alone (R122). EVENT_MASK is a set, not a number. -/
def ConfigItem.inRange : ConfigItem → Nat → Bool
  | .budgetCap, v | .safeBudget, v | .reserve, v => v ≤ 65535
  | .staleTimeout, v => 100 ≤ v && v ≤ 10000
  | .highMark, v => 1 ≤ v && v ≤ 100
  | .lowMark, v => v ≤ 99
  | .acceptWindow, v => 10 ≤ v && v ≤ 1000
  | .probeInterval, v => v == 10 || v == 20 || v == 50 || v == 100
  | .eventMask, _ => false

/-- Check 3 of R123: HIGH_MARK stays above LOW_MARK. -/
def ConfigItem.marksOk (items : LiveItems) : ConfigItem → Nat → Bool
  | .highMark, v => items.lowMark < v
  | .lowMark, v => v < items.highMark
  | .budgetCap, _ | .safeBudget, _ | .reserve, _ | .staleTimeout, _ | .acceptWindow, _ | .probeInterval, _
  | .eventMask, _ => true

/-- The items with a numeric item replaced. -/
def LiveItems.put (items : LiveItems) : ConfigItem → Nat → LiveItems
  | .budgetCap, v => { items with budgetCap := v }
  | .safeBudget, v => { items with safeBudget := v }
  | .reserve, v => { items with reserve := v }
  | .staleTimeout, v => { items with staleTimeout := v }
  | .highMark, v => { items with highMark := v }
  | .lowMark, v => { items with lowMark := v }
  | .acceptWindow, v => { items with acceptWindow := v }
  | .probeInterval, v => { items with probeInterval := v }
  | .eventMask, _ => items

/-- Every item is within its range and HIGH_MARK is above LOW_MARK (R122). -/
def LiveItems.valid (items : LiveItems) : Bool :=
  ConfigItem.budgetCap.inRange items.budgetCap && ConfigItem.safeBudget.inRange items.safeBudget
    && ConfigItem.reserve.inRange items.reserve && ConfigItem.staleTimeout.inRange items.staleTimeout
    && ConfigItem.highMark.inRange items.highMark && ConfigItem.lowMark.inRange items.lowMark
    && ConfigItem.acceptWindow.inRange items.acceptWindow && ConfigItem.probeInterval.inRange items.probeInterval
    && items.lowMark < items.highMark

/-- The value a numeric item's payload carries after the item byte. -/
def bodyFigure : List Byte → Nat
  | [hi, lo] => figure2 hi lo
  | _ => 0

/-- The outcome of SET_CONFIG's checks: the item and the items with it replaced, or the NAK reason. The check
of form of R132 comes first for EVENT_MASK; then the checks of R123 in order. -/
def configChange (items : LiveItems) (item : Byte) (body : List Byte) : Except NakReason (ConfigItem × LiveItems) :=
  match ConfigItem.ofCode? item.toNat with
  | none => .error .badIndex
  | some .eventMask =>
    match body with
    | [] => .error .malformed
    | count :: kinds =>
      if !listFormOk count kinds then .error .malformed
      else match kindSetOf? kinds with
        | none => .error .badValue
        | some set => .ok (.eventMask, { items with eventMask := set })
  | some it =>
    if !it.inRange (bodyFigure body) then .error .badValue
    else if !it.marksOk items (bodyFigure body) then .error .badValue
    else .ok (it, items.put it (bodyFigure body))

/-- The slot that a slot byte names; none above 7 (the BAD_SLOT checks). -/
def slotOf? (b : Byte) : Option Slot := if h : b.toNat < 8 then some ⟨b.toNat, h⟩ else none

end Sys2Proof.Machine
end

