-- ==== Sys2Proof/Machine/Frames.lean ====
section
/-!
DEFINITION. The framing of every link: the CRC (R177), the frames the part sends (R180) with their payload
layouts, the receiver (R176) and the checks of a complete frame (R178), which end in the command it carries.
-/

namespace Sys2Proof.Machine

/-! ## The frame and its check -/

/-- SYNC (12 "The frame"). -/
def sync : Byte := 0xC3

/-- One bit of the CRC: the register shifts, and the generator polynomial 0x1021 is applied when the bit that
leaves it is 1 (R177). -/
def crcBit (r : BitVec 16) : BitVec 16 := if r.getLsbD 15 then (r <<< 1) ^^^ 0x1021 else r <<< 1

/-- Eight bits of the CRC, most significant first. -/
def crcByte (r : BitVec 16) (b : Byte) : BitVec 16 :=
  crcBit (crcBit (crcBit (crcBit (crcBit (crcBit (crcBit (crcBit (r ^^^ (b.zeroExtend 16 <<< 8)))))))))

/-- The CRC over a list of bytes: the register starts at 0xFFFF, with no reflection and no final inversion
(R177). -/
def crc16 (bytes : List Byte) : BitVec 16 := bytes.foldl crcByte 0xFFFF

/-- The bytes that the CRC covers: LEN through the last payload byte (R177). LEN is 4 more than the payload's
length. -/
def frameBody (dst src kind seq : Byte) (payload : List Byte) : List Byte :=
  byteOf (payload.length + 4) :: dst :: src :: kind :: seq :: payload

/-- A whole frame: SYNC, LEN, header, payload, and the CRC with its high byte first (12 "The frame", R177). -/
def formFrame (dst src kind seq : Byte) (payload : List Byte) : List Byte :=
  sync :: (frameBody dst src kind seq payload ++ bytes2 (crc16 (frameBody dst src kind seq payload)).toNat)

/-- The address of the shelf manager (00_scope "Terms"). -/
def managerAddress : Byte := 0x02
/-- The address of the supply controller. -/
def controllerAddress : Byte := 0x01
/-- The part's address on a slot link. -/
def slotLinkAddress : Byte := 0x00
/-- The module's address on a slot link. -/
def moduleAddress : Byte := 0x80
/-- The broadcast address, taken for BUDGET alone (R178). -/
def broadcastAddress : Byte := 0xFF
/-- The part's own address on the supply link: 0x30 plus the straps, ADDR1 the high bit (R181). -/
def partAddress (straps : BitVec 2) : Byte := 0x30 + straps.zeroExtend 8

/-! ## Frames the part sends -/

/-- The kind code of an order (12 "Kind codes"). -/
def Order.kind : Order → Byte
  | .offer .. => 0x21
  | .shed .. => 0x25
  | .closed .. => 0x26
  | .cut _ => 0x27
  | .probe => 0x20

/-- The payload of an order (12 "Payloads of the central kinds"). -/
def Order.payload : Order → List Byte
  | .offer tag amount lease => tag :: (bytes2 amount ++ bytes2 lease)
  | .shed tag target window => tag :: (bytes2 target ++ bytes2 window)
  | .closed tag reason => [tag, byteOf reason.code]
  | .cut reason => [byteOf reason.code]
  | .probe => []

/-- The kind code of an answer to a module. -/
def Reply.kind : Reply → Byte
  | .refuse .. => 0x24
  | .queued .. => 0x22
  | .granted .. => 0x23
  | .closed .. => 0x26

/-- The payload of an answer to a module. -/
def Reply.payload : Reply → List Byte
  | .refuse tag reason => [tag, byteOf reason.code]
  | .queued tag position => [tag, byteOf position]
  | .granted tag amount => tag :: bytes2 amount
  | .closed tag reason => [tag, byteOf reason.code]

/-- The bytes of a frame sent on a slot link: SEQ is 0 but for DATA, which carries the SEQ of the DATA_DOWN it
came from (R180). -/
def SlotFrame.bytes : SlotFrame → List Byte
  | .order o => formFrame moduleAddress slotLinkAddress o.kind 0 o.payload
  | .reply r => formFrame moduleAddress slotLinkAddress r.kind 0 r.payload
  | .data d => formFrame moduleAddress slotLinkAddress 0x1F d.seq d.payload

/-- The payload of an ANSWER: outcome, reason, data (12 "Payloads of the central kinds"). -/
def Answer.payload (a : Answer) : List Byte :=
  match a.settle with
  | .ack data => 0 :: 0 :: data
  | .nak reason => [1, byteOf reason.code]

/-- The payload of a NOTICE: kind, origin, count, detail. -/
def Notice.payload (n : Notice) : List Byte :=
  byteOf n.kind.code :: byteOf (originCode n.origin) :: byteOf n.count :: bytes2 n.detail

/-- The bytes of a frame sent on the supply link by the part of this strap value (R180). -/
def UpFrame.bytes (straps : BitVec 2) : UpFrame → List Byte
  | .answer a => formFrame managerAddress (partAddress straps) 0x70 a.seq a.payload
  | .notice n => formFrame managerAddress (partAddress straps) 0x71 n.seq n.payload
  | .dataUp d => formFrame managerAddress (partAddress straps) 0x72 d.seq (byteOf d.slot.val :: d.payload)

/-! ## Frames the part receives -/

/-- The outcome of the checks of a complete frame (R178). -/
inductive Verdict where
  | accepted (c : Instr)
  | ignored
  | failed (e : LinkError)
deriving DecidableEq, Repr

/-- The command that a frame of a module carries, when its kind is one that a module sends and its payload is
of that kind's length (R178 checks 2 and 3, 12 "Kind codes"). -/
def moduleCommand? (i : Slot) (kind : Nat) (seq : Byte) (payload : List Byte) : Option Instr :=
  match kind, payload with
  | 0x10, [cls, p1, p0] => some (.present i cls (half2 p1 p0))
  | 0x11, [tag, w1, w0, l1, l0] => some (.claim i tag (half2 w1 w0) (half2 l1 l0))
  | 0x12, [tag] => some (.accept i tag)
  | 0x13, [tag] => some (.decline i tag)
  | 0x14, [tag] => some (.release i tag)
  | 0x15, [tag] => some (.renew i tag)
  | 0x16, [tag, a1, a0] => some (.adjust i tag (half2 a1 a0))
  | 0x17, [tag, m1, m0] => some (.report i tag (half2 m1 m0))
  | 0x18, [tag] => some (.comply i tag)
  | 0x1F, payload => if payload.length ≤ 31 then some (.data i seq payload) else none
  | _, _ => none

/-- The urgency that BUDGET's third payload byte names (R178 check 3). -/
def urgencyOf? (b : Byte) : Option Urgency :=
  match b.toNat with
  | 0 => some .normal
  | 1 => some .immediate
  | _ => none

/-- The command that a frame of the supply link carries (R178 checks 2 and 3, 12 "Kind codes"). -/
def supplyCommand? (kind : Nat) (seq : Byte) (payload : List Byte) : Option Instr :=
  match kind, payload with
  | 0x40, [b1, b0, u] => (urgencyOf? u).map (.budget seq (half2 b1 b0))
  | 0x50, [] => some (.queryStatus seq)
  | 0x51, [table, index] => some (.readEntry seq table index)
  | 0x52, slot :: record => if record.length = 26 then some (.writePolicy seq slot record) else none
  | 0x53, [] => some (.commit seq)
  | 0x54, [] => some (.discard seq)
  | 0x55, item :: body => if configBodyFits item body then some (.setConfig seq item body) else none
  | 0x56, count :: kinds => if kinds.length ≤ 31 then some (.clearEvents seq count kinds) else none
  | 0x57, [slot, tag, t1, t0] => some (.forceShed seq slot tag (half2 t1 t0))
  | 0x58, [slot, tag] => some (.forceClose seq slot tag)
  | 0x59, [slot] => some (.forceCut seq slot)
  | 0x5A, [slot] => some (.portReset seq slot)
  | 0x5B, [page] => some (.storeErase seq page)
  | 0x5C, [page] => some (.storeSave seq page)
  | 0x5D, [page] => some (.storeLoad seq page)
  | 0x5E, [] => some (.restart seq)
  | 0x5F, [ack] => some (.noticeAck ack)
  | 0x60, slot :: payload => if payload.length ≤ 31 then some (.dataDown seq slot payload) else none
  | _, _ => none

/-- The kind code of BUDGET. -/
def budgetKind : Byte := 0x40

/-- Check 1 of R178: whether the destination passes; any other is ignored without error. -/
def destinationPasses (straps : BitVec 2) : Link → Byte → Byte → Bool
  | .slot _, dst, _ => dst == slotLinkAddress
  | .supply, dst, kind => dst == partAddress straps || (dst == broadcastAddress && kind == budgetKind)

/-- Check 4 of R178: the source a frame of the kind must have. -/
def requiredSource : Link → Byte → Byte
  | .slot _, _ => moduleAddress
  | .supply, kind => if kind = budgetKind then controllerAddress else managerAddress

/-- Checks 2 and 3 of R178: the command that the kind and the payload carry. -/
def commandOf? : Link → Byte → Byte → List Byte → Option Instr
  | .slot i, kind, seq, payload => moduleCommand? i kind.toNat seq payload
  | .supply, kind, seq, payload => supplyCommand? kind.toNat seq payload

/-- The checks of a frame whose CRC agrees, in the order of R178. -/
def checkHeader (straps : BitVec 2) (link : Link) (dst src kind seq : Byte) (payload : List Byte) : Verdict :=
  if !destinationPasses straps link dst kind then .ignored
  else match commandOf? link kind seq payload with
    | none => .failed .framing
    | some c => if src = requiredSource link kind then .accepted c else .failed .framing

/-- The checks of a complete frame, from SYNC to the second CRC byte: the CRC first (R177), then R178. -/
def checkFrame (straps : BitVec 2) (link : Link) (frame : List Byte) : Verdict :=
  match frame with
  | _ :: len :: dst :: src :: kind :: seq :: rest =>
    let payload := rest.take (len.toNat - 4)
    if rest.drop (len.toNat - 4) = bytes2 (crc16 (len :: dst :: src :: kind :: seq :: payload)).toNat then
      checkHeader straps link dst src kind seq payload
    else .failed .crc
  | _ => .failed .framing

/-- One byte at a receiver (R176): the bytes of the frame in progress after it, none while hunting, and the
verdict when the byte ends a frame. -/
def receiveByte (straps : BitVec 2) (link : Link) (got : List Byte) (b : Byte) : List Byte × Option Verdict :=
  match got with
  | [] => (if b = sync then [b] else [], none)
  | [_] => if b.toNat < 4 || 36 < b.toNat then ([], some (.failed .framing)) else (got ++ [b], none)
  | _ :: len :: _ =>
    let frame := got ++ [b]
    if frame.length = len.toNat + 4 then ([], some (checkFrame straps link frame)) else (frame, none)

/-! ## The frame that carries a command -/

/-- Kind code, header sequence and payload of the frame that carries a command, with the link it comes on
(12 "Kind codes"). SEQ is not read on a power frame, PRESENT or NOTICE_ACK and is 0 here (R180). None for a
command that is no frame. -/
def carrierOf : Instr → Option (Link × Byte × Byte × List Byte)
  | .present i cls peak => some (.slot i, 0x10, 0, cls :: bytes2 peak.toNat)
  | .claim i tag want least => some (.slot i, 0x11, 0, tag :: (bytes2 want.toNat ++ bytes2 least.toNat))
  | .accept i tag => some (.slot i, 0x12, 0, [tag])
  | .decline i tag => some (.slot i, 0x13, 0, [tag])
  | .release i tag => some (.slot i, 0x14, 0, [tag])
  | .renew i tag => some (.slot i, 0x15, 0, [tag])
  | .adjust i tag amount => some (.slot i, 0x16, 0, tag :: bytes2 amount.toNat)
  | .report i tag measured => some (.slot i, 0x17, 0, tag :: bytes2 measured.toNat)
  | .comply i tag => some (.slot i, 0x18, 0, [tag])
  | .data i seq payload => some (.slot i, 0x1F, seq, payload)
  | .budget seq amount urgency =>
    some (.supply, 0x40, seq, bytes2 amount.toNat ++ [if urgency = .immediate then 1 else 0])
  | .queryStatus seq => some (.supply, 0x50, seq, [])
  | .readEntry seq table index => some (.supply, 0x51, seq, [table, index])
  | .writePolicy seq slot record => some (.supply, 0x52, seq, slot :: record)
  | .commit seq => some (.supply, 0x53, seq, [])
  | .discard seq => some (.supply, 0x54, seq, [])
  | .setConfig seq item body => some (.supply, 0x55, seq, item :: body)
  | .clearEvents seq count kinds => some (.supply, 0x56, seq, count :: kinds)
  | .forceShed seq slot tag target => some (.supply, 0x57, seq, slot :: tag :: bytes2 target.toNat)
  | .forceClose seq slot tag => some (.supply, 0x58, seq, [slot, tag])
  | .forceCut seq slot => some (.supply, 0x59, seq, [slot])
  | .portReset seq slot => some (.supply, 0x5A, seq, [slot])
  | .storeErase seq page => some (.supply, 0x5B, seq, [page])
  | .storeSave seq page => some (.supply, 0x5C, seq, [page])
  | .storeLoad seq page => some (.supply, 0x5D, seq, [page])
  | .restart seq => some (.supply, 0x5E, seq, [])
  | .noticeAck ack => some (.supply, 0x5F, 0, [ack])
  | .dataDown seq slot payload => some (.supply, 0x60, seq, slot :: payload)
  | .frameReceiveError .. | .byteGapTimeout .. | .offerDeadline .. | .leaseExpiry .. | .waitDeadline ..
  | .staleDeadline | .shedDeadline .. | .reportDeadline .. | .penaltyEndTime .. | .probeDeadline ..
  | .answerDeadline .. | .retransmitDeadline | .storeEraseCompletion | .storeSaveCompletion ..
  | .storeLoadCompletion | .slotTransmissionBegin .. | .slotTransmissionSent .. | .upstreamTransmissionBegin
  | .upstreamTransmissionSent | .restartTakesEffect .. | .hardReset .. | .startUpScanEnd => none

/-- The bytes of the frame that carries a command to the part of this strap value. -/
def frameOf (straps : BitVec 2) (c : Instr) : Option (Link × List Byte) :=
  (carrierOf c).map fun (link, kind, seq, payload) =>
    (link, formFrame (match link with | .slot _ => slotLinkAddress | .supply => partAddress straps)
      (requiredSource link kind) kind seq payload)

end Sys2Proof.Machine
end

