-- ==== Sys2Proof/Machine/Notices.lean ====
section
/-!
DEFINITION. The Notice Unit: raising an event (R147), placing and merging its notice (R150), losing one (R151),
and the choice of the notice that is SENT (R152).
-/

namespace Sys2Proof.Machine

/-- Whether a record is WAITING. -/
def Notice.isWaiting (n : Notice) : Bool :=
  match n.state with
  | .waiting => true
  | .sent _ _ => false

/-- Whether a record is SENT. -/
def Notice.isSent (n : Notice) : Bool := !n.isWaiting

/-- Whether a WAITING record has this key (R150). -/
def Notice.waitsFor (kind : EventKind) (origin : Option Origin) (n : Notice) : Bool :=
  n.isWaiting && n.kind == kind && n.origin == origin

/-- An event merged into a record: the count stays at 255 once it gets there, the detail is the event's (R150). -/
def Notice.merge (detail : Nat) (n : Notice) : Notice :=
  { n with count := if n.count < Config.maxMerged then n.count + 1 else n.count, detail := detail }

/-- The first element that satisfies a test, changed; the others as they were. -/
def modifyFirst {α : Type} (p : α → Bool) (f : α → α) : List α → List α
  | [] => []
  | a :: rest => if p a then f a :: rest else a :: modifyFirst p f rest

/-- A record that becomes SENT is offered to the transmitter with no transmission begun (R152). -/
def Notice.send (n : Notice) : Notice := { n with state := .sent 0 .offered }

/-- Whenever the queue holds no SENT record and a WAITING one, the oldest WAITING record becomes SENT (R152). -/
def promote (queue : List Notice) : List Notice :=
  if queue.any Notice.isSent then queue else modifyFirst Notice.isWaiting Notice.send queue

/-- The records in general places (R149). -/
def generalCount (queue : List Notice) : Nat := (queue.filter (!·.reserved)).length

/-- A new WAITING record at the end of the queue; it takes the counter's seq, and the counter advances (R149).
The record becomes SENT at once where no record is SENT (R152). -/
def NoticeUnit.create (u : NoticeUnit) (kind : EventKind) (origin : Option Origin) (detail : Nat)
    (reserved : Bool) : NoticeUnit :=
  { u with
    queue := promote (u.queue ++ [⟨u.nextSeq, kind, origin, 1, detail, reserved, .waiting⟩])
    nextSeq := u.nextSeq + 1 }

/-- An event merged into the WAITING record with its key (R150). -/
def NoticeUnit.mergeInto (u : NoticeUnit) (kind : EventKind) (origin : Option Origin) (detail : Nat) : NoticeUnit :=
  { u with queue := modifyFirst (Notice.waitsFor kind origin) (Notice.merge detail) u.queue }

/-- The event's flag set (R147). -/
def NoticeUnit.flag (u : NoticeUnit) (kind : EventKind) : NoticeUnit := { u with flags := addKind u.flags kind }

/-- The placing of a NOTICE_LOST notice (R151): merged, else in a general place, else in the reserved place,
else not recorded. -/
def NoticeUnit.placeLost (u : NoticeUnit) (detail : Nat) : NoticeUnit :=
  if u.queue.any (Notice.waitsFor .noticeLost none) then u.mergeInto .noticeLost none detail
  else if generalCount u.queue < Config.generalPlaces then u.create .noticeLost none detail false
  else if u.queue.any (·.reserved) then u
  else u.create .noticeLost none detail true

/-- NOTICE_LOST raised for a notice that is not recorded or is given up (R151, R153). -/
def NoticeUnit.raiseLost (u : NoticeUnit) (mask : KindSet) (lost : EventKind) : NoticeUnit :=
  if hasKind mask .noticeLost then u.flag .noticeLost else (u.flag .noticeLost).placeLost lost.code

/-- The placing of an event's notice (R150, R151). -/
def NoticeUnit.place (u : NoticeUnit) (mask : KindSet) (kind : EventKind) (origin : Option Origin)
    (detail : Nat) : NoticeUnit :=
  if u.queue.any (Notice.waitsFor kind origin) then u.mergeInto kind origin detail
  else if generalCount u.queue < Config.generalPlaces then u.create kind origin detail false
  else u.raiseLost mask kind

/-- Raising an event (R147): its flag is set, and unless the kind is masked its notice is placed. -/
def NoticeUnit.raise (u : NoticeUnit) (mask : KindSet) (kind : EventKind) (origin : Option Origin)
    (detail : Nat) : NoticeUnit :=
  if hasKind mask kind then u.flag kind else (u.flag kind).place mask kind origin detail

/-- An event raised by a block: the mask is read when the event is taken (R147). -/
def State.raise (s : State) (kind : EventKind) (origin : Option Origin) (detail : Nat) : State :=
  { s with ntc := s.ntc.raise s.pol.items.eventMask kind origin detail }

/-- The SENT record, removed from the queue. -/
def dropSent (queue : List Notice) : List Notice := queue.eraseP Notice.isSent

/-- NOTICE_ACK (R154): the SENT record with the seq leaves, and the oldest WAITING record becomes SENT. -/
def NoticeUnit.acknowledge (u : NoticeUnit) (seq : Byte) : NoticeUnit :=
  if u.queue.any (fun n => n.isSent && n.seq == seq) then { u with queue := promote (dropSent u.queue) } else u

/-- A record whose retransmit deadline has passed with sends left is offered again (R153). -/
def Notice.offerAgain (n : Notice) : Notice :=
  match n.state with
  | .sent sends (.awaiting _) => { n with state := .sent sends .offered }
  | _ => n

/-- A record whose transmission begins: sends rises by 1 (R152, R153). -/
def Notice.beginSend (n : Notice) : Notice :=
  match n.state with
  | .sent sends .offered => { n with state := .sent (sends + 1) .transmitting }
  | _ => n

/-- A record whose transmission completes: its retransmit deadline is set (R152, R153). -/
def Notice.endSend (deadline : Time) (n : Notice) : Notice :=
  match n.state with
  | .sent sends .transmitting => { n with state := .sent sends (.awaiting deadline) }
  | _ => n

/-- Whether a record is SENT and being offered to the transmitter (R173). -/
def Notice.isOffered (n : Notice) : Bool :=
  match n.state with
  | .sent _ .offered => true
  | _ => false

/-- The retransmit deadline of a record, between its transmissions (R149). -/
def Notice.deadline? (n : Notice) : Option Time :=
  match n.state with
  | .sent _ (.awaiting d) => some d
  | _ => none

/-- The number of transmissions of a record begun so far (R149). -/
def Notice.sends (n : Notice) : Nat :=
  match n.state with
  | .sent k _ => k
  | .waiting => 0

/-- The expiry of the SENT record's retransmit deadline (R153): offered again, or given up with NOTICE_LOST
placed before the oldest WAITING record becomes SENT. -/
def NoticeUnit.retransmit (u : NoticeUnit) (mask : KindSet) (n : Notice) : NoticeUnit :=
  if n.sends < Config.maxSends then { u with queue := modifyFirst Notice.isSent Notice.offerAgain u.queue }
  else
    let lost := ({ u with queue := dropSent u.queue } : NoticeUnit).raiseLost mask n.kind
    { lost with queue := promote lost.queue }

end Sys2Proof.Machine
end

