-- ==== Sys2Proof/Machine/Flags.lean ====
section
/-!
DEFINITION. The flags and figures of the Budget Monitor: effective budget, admission limit and marks (R49, R53),
the overcommit flag (R52) and the watermark flag (R54), each with the event its change raises.
-/

namespace Sys2Proof.Machine

/-- Room: the admission limit minus committed power, floored at 0 (R44). -/
def State.room (s : State) : Nat := s.bud.limit - s.adm.committed

/-- The overcommit flag's re-evaluation (R52). -/
def evalOvercommit (s : State) : State :=
  if s.adm.committed > s.bud.limit then
    if s.bud.overcommit then s
    else ({ s with bud.overcommit := true } : State).raise .overcommit none
      (min (s.adm.committed - s.bud.limit) Config.maxCount)
  else
    if s.bud.overcommit then
      ({ s with bud.overcommit := false } : State).raise .overcommitCleared none s.adm.committed
    else s

/-- The value the three tests of R54 give the watermark flag. -/
def watermarkValue (b : BudgetMonitor) (committed : Nat) : Bool :=
  if b.highMark ≤ committed ∧ 0 < b.limit then true
  else if committed ≤ b.lowMark then false
  else b.watermark

/-- The watermark flag's evaluation (R54). -/
def evalWatermark (s : State) : State :=
  if watermarkValue s.bud s.adm.committed then
    if s.bud.watermark then s
    else ({ s with bud.watermark := true } : State).raise .watermark none s.adm.committed
  else
    if s.bud.watermark then
      ({ s with bud.watermark := false } : State).raise .watermarkCleared none s.adm.committed
    else s

/-- Both flags, the overcommit flag first (R54). -/
def evalFlags (s : State) : State := evalWatermark (evalOvercommit s)

/-- The base figure: the announced budget while the stale flag is clear, SAFE_BUDGET while it is set (R49). -/
def baseFigure (b : BudgetMonitor) (items : LiveItems) : Nat :=
  if b.stale then items.safeBudget else b.announced.getD 0

/-- The marks worked out from the limit (R53). -/
def workOutMarks (b : BudgetMonitor) (items : LiveItems) : BudgetMonitor :=
  { b with
    highMark := b.limit * items.highMark / 100
    lowMark := b.limit * items.lowMark / 100 }

/-- The effective budget, the admission limit and the marks, worked out afresh (R49, R53). -/
def workOut (b : BudgetMonitor) (items : LiveItems) : BudgetMonitor :=
  workOutMarks
    { b with
      effective := min items.budgetCap (baseFigure b items)
      limit := min items.budgetCap (baseFigure b items) - items.reserve }
    items

/-- The figures worked out afresh and both flags re-evaluated (R49). The requests that follow are the
caller's. -/
def recompute (s : State) : State := evalFlags { s with bud := workOut s.bud s.pol.items }

end Sys2Proof.Machine
end

