-- ==== Sys2Proof/Machine/Ops.lean ====
section
/-!
DEFINITION. The shared operations over the Slot Ports, the contract table and the pending claim queue: orders
and answers, the enable output, removal of a contract, departure of a queue entry, withdrawal, shed, teardown
and the cut.
-/

namespace Sys2Proof.Machine

/-! ## Access -/

/-- A slot's port. -/
def State.port (s : State) (i : Slot) : SlotPort := s.ports.get i

/-- A slot's port replaced. -/
def State.setPort (s : State) (i : Slot) (p : SlotPort) : State := { s with ports := s.ports.set i p }

/-- A slot's port changed. -/
def State.onPort (s : State) (i : Slot) (f : SlotPort → SlotPort) : State := s.setPort i (f (s.port i))

/-- A slot's active policy record (R112). -/
def State.policy (s : State) (i : Slot) : Policy := s.pol.active.get i

/-- All slots, 0 first. -/
def allSlots : List Slot := [0, 1, 2, 3, 4, 5, 6, 7]

/-- A count that stays at 65535 once it gets there (R94, R179). -/
def countUp (n : Nat) : Nat := if n < Config.maxCount then n + 1 else n

/-- An expiry is taken at its deadline or later: the time base stands at the deadline at least. DESIGN CHOICE:
a deadline still ahead is reached by the expiry itself (notes/assumptions/2.md). -/
def State.reach (s : State) (deadline : Time) : State := { s with now := max s.now deadline }

/-- Frames are taken and timers run: the part is RUNNING and no restart wait is set (R141, R165). -/
def State.active (s : State) : Bool := s.part == .running && !s.man.restartWait

/-! ## Contracts and claims -/

/-- The contract or claim of this slot and tag (R3). -/
def Contract.isOf (i : Slot) (t : Byte) (c : Contract) : Bool := c.slot == i && c.tag == t

/-- The queue entry of this slot and tag (R27). -/
def QueueEntry.isOf (i : Slot) (t : Byte) (e : QueueEntry) : Bool := e.slot == i && e.tag == t

/-- The slot's contract under the tag. -/
def State.contract? (s : State) (i : Slot) (t : Byte) : Option Contract := s.adm.contracts.find? (Contract.isOf i t)

/-- The slot's queued claim under the tag. -/
def State.claim? (s : State) (i : Slot) (t : Byte) : Option QueueEntry := s.adm.queue.find? (QueueEntry.isOf i t)

/-- Whether a contract is granted: HELD or SHEDDING. -/
def Contract.granted (c : Contract) : Bool :=
  match c.state with
  | .offered _ => false
  | .held _ | .shedding _ _ => true

/-- Whether a contract is OFFERED. -/
def Contract.isOffered (c : Contract) : Bool := !c.granted

/-- Whether a contract is HELD. -/
def Contract.isHeld (c : Contract) : Bool :=
  match c.state with
  | .held _ => true
  | .offered _ | .shedding _ _ => false

/-- Whether a contract is SHEDDING. -/
def Contract.isShedding (c : Contract) : Bool :=
  match c.state with
  | .shedding _ _ => true
  | .offered _ | .held _ => false

/-- The relief of a contract: its amount minus its target while SHEDDING (R65). -/
def Contract.relief (c : Contract) : Nat :=
  match c.state with
  | .shedding _ sh => c.amount - sh.target
  | .offered _ | .held _ => 0

/-- The sum of the reservations of some contracts (R4). -/
def totalAmount (cs : List Contract) : Nat := (cs.map (·.amount)).sum

/-- The sum of the reliefs of some contracts (R65). -/
def totalRelief (cs : List Contract) : Nat := (cs.map Contract.relief).sum

/-- The slot's contracts, in table order. -/
def State.contractsOf (s : State) (i : Slot) : List Contract := s.adm.contracts.filter (·.slot == i)

/-- The slot's queued claims, in service order. -/
def State.claimsOf (s : State) (i : Slot) : List QueueEntry := s.adm.queue.filter (·.slot == i)

/-- Ceiling room: the slot's ceiling minus its own reservations, floored at 0 (00_scope "Terms"). -/
def State.ceilingRoom (s : State) (i : Slot) : Nat := (s.policy i).ceiling - totalAmount (s.contractsOf i)

/-- The present class of a queue entry: its slot's (R27). -/
def State.entryClass (s : State) (e : QueueEntry) : Nat := (s.policy e.slot).cls.code

/-- The present class of a contract: its slot's. -/
def State.contractClass (s : State) (c : Contract) : Nat := (s.policy c.slot).cls.code

/-- The bar of R31: the queue holds an entry whose slot's class is at least this slot's. -/
def State.barred (s : State) (i : Slot) : Bool :=
  s.adm.queue.any fun e => decide ((s.policy i).cls.code ≤ s.entryClass e)

/-- The slot's contracts and queued claims together (R7 check 4, R100). -/
def State.heldBy (s : State) (i : Slot) : Nat := (s.contractsOf i).length + (s.claimsOf i).length

/-- Whether the slot holds a SHEDDING contract. -/
def State.sheds (s : State) (i : Slot) : Bool := (s.contractsOf i).any Contract.isShedding

/-! ## Answers and orders -/

/-- An answer placed at the end of the reply queue; dropped and counted when the queue is full (R106). -/
def State.reply (s : State) (i : Slot) (r : Reply) : State :=
  s.onPort i fun p =>
    if p.replies.length < Config.replyPlaces then { p with replies := p.replies ++ [r] }
    else { p with forwardDrops := countUp p.forwardDrops }

/-- What an order concerns (R104). -/
def Order.matter : Order → Matter
  | .offer t _ _ => .tag t
  | .shed t _ _ => .tag t
  | .closed t _ => .tag t
  | .cut _ => .cut
  | .probe => .probe

/-- Whether an order takes a tag place (R104). -/
def Order.takesTagPlace (o : Order) : Bool :=
  match o.matter with
  | .tag _ => true
  | .cut | .probe => false

/-- Whether a tag belongs to a contract or a queued claim of the slot (R105). -/
def State.tagInUse (s : State) (i : Slot) (t : Byte) : Bool :=
  s.adm.contracts.any (Contract.isOf i t) || s.adm.queue.any (QueueEntry.isOf i t)

/-- Whether a waiting order may be dropped to make room: a tag order whose tag is not in use (R105). -/
def State.droppable (s : State) (i : Slot) (o : Order) : Bool :=
  match o.matter with
  | .tag t => !s.tagInUse i t
  | .cut | .probe => false

/-- The list with one waiting tag order dropped: the oldest whose tag is not in use (R105). DESIGN CHOICE: where
none is (a state no run reaches), the oldest tag order (notes/assumptions/6.md). -/
def State.dropOrder (s : State) (i : Slot) (orders : List Order) : List Order :=
  if orders.any (s.droppable i) then orders.eraseP (s.droppable i) else orders.eraseP Order.takesTagPlace

/-- An order placed in the slot's order list (R104, R105). -/
def State.order (s : State) (i : Slot) (o : Order) : State :=
  s.onPort i fun p =>
    if p.orders.any (·.matter == o.matter) then
      { p with orders := modifyFirst (·.matter == o.matter) (fun _ => o) p.orders }
    else if o.takesTagPlace && decide (Config.tagPlaces ≤ (p.orders.filter Order.takesTagPlace).length) then
      { p with orders := s.dropOrder i p.orders ++ [o], forwardDrops := countUp p.forwardDrops }
    else { p with orders := p.orders ++ [o] }

/-- The value of the slot enable output: asserted exactly when the slot is PRESENT and holds a HELD or SHEDDING
contract (R103). -/
def State.enableValue (s : State) (i : Slot) : Bool :=
  (s.port i).state == .present && (s.contractsOf i).any Contract.granted

/-- The slot enable output re-evaluated (R103). -/
def State.evalEnable (s : State) (i : Slot) : State := s.onPort i fun p => { p with enable := s.enableValue i }

/-! ## Removal, departure, creation -/

/-- The contract of a slot and tag leaves the table, with its effects on committed power, pledged relief and
the enable output (R22). The flags are the caller's. -/
def State.removeContract (s : State) (i : Slot) (t : Byte) : State :=
  match s.contract? i t with
  | none => s
  | some c =>
    ({ s with
      adm.contracts := s.adm.contracts.eraseP (Contract.isOf i t)
      adm.committed := s.adm.committed - c.amount
      eng.pledged := s.eng.pledged - c.relief } : State).evalEnable i

/-- A contract removed as R22 states, up to the admission pass that its cause calls for. -/
def State.closeContract (s : State) (i : Slot) (t : Byte) : State := evalFlags (s.removeContract i t)

/-- The slot's contract under the tag, changed. -/
def State.onContract (s : State) (i : Slot) (t : Byte) (f : Contract → Contract) : State :=
  { s with adm.contracts := modifyFirst (Contract.isOf i t) f s.adm.contracts }

/-- The preempt request record is cleared when it belongs to this queue entry (R32, R77). -/
def State.clearRecord (s : State) (i : Slot) (t : Byte) : State :=
  { s with eng.record := s.eng.record.filter fun r => !(r.slot == i && r.tag == t) }

/-- A queue entry leaves both orders, and the record that belongs to it is cleared (R32). -/
def State.leaveQueue (s : State) (i : Slot) (t : Byte) : State :=
  ({ s with
    adm.queue := s.adm.queue.eraseP (QueueEntry.isOf i t)
    adm.arrival := s.adm.arrival.erase (i, t) } : State).clearRecord i t

/-- An OFFERED contract is created, committed power rises, and OFFER is placed (R9). -/
def State.createOffer (s : State) (i : Slot) (t : Byte) (amount : Nat) : State :=
  (evalFlags
    { s with
      adm.contracts := s.adm.contracts ++ [⟨i, t, amount, .offered (s.now + s.pol.items.acceptWindow)⟩]
      adm.committed := s.adm.committed + amount }).order i (.offer t amount (s.policy i).lease)

/-- The offered amount: the smaller of the want and the smaller of room and ceiling room rounded down to the
slot's step (R8, R37). -/
def State.offerAmount (s : State) (i : Slot) (want : Nat) : Nat :=
  min want (roundDown (s.policy i).step (min s.room (s.ceilingRoom i)))

/-- A withdrawal: an OFFERED contract closes with CLOSED(WITHDRAWN) as an order (R60). -/
def State.withdraw (s : State) (i : Slot) (t : Byte) : State :=
  (s.closeContract i t).order i (.closed t .withdrawn)

/-- A HELD contract with a shed issued; other contracts are as they were (R62). -/
def Contract.shedTo (target deadline : Nat) (forced : Bool) (c : Contract) : Contract :=
  match c.state with
  | .held g => { c with state := .shedding g ⟨target, deadline, forced⟩ }
  | .offered _ | .shedding _ _ => c

/-- A shed issued on a HELD contract (R62): the deadline runs from now, pledged relief rises, SHED is placed. -/
def State.issueShed (s : State) (i : Slot) (t : Byte) (target : Nat) (forced : Bool) : State :=
  match s.contract? i t with
  | none => s
  | some c =>
    if c.isHeld then
      (({ s with eng.pledged := s.eng.pledged + (c.amount - target) } : State).onContract i t
        (Contract.shedTo target (s.now + (s.policy i).shedWindow) forced)).order i
        (.shed t target (s.policy i).shedWindow)
    else s

/-! ## Teardown and cut -/

/-- Every contract and queued claim of the slot is removed without frames, and the preempt request record that
belongs to the slot is cleared (R24, R42). The flags are the caller's. -/
def State.removeSlot (s : State) (i : Slot) : State :=
  ({ s with
    adm.contracts := s.adm.contracts.filter (·.slot != i)
    adm.queue := s.adm.queue.filter (·.slot != i)
    adm.arrival := s.adm.arrival.filter (·.1 != i)
    adm.committed := s.adm.committed - totalAmount (s.contractsOf i)
    eng.pledged := s.eng.pledged - totalRelief (s.contractsOf i)
    eng.record := s.eng.record.filter (·.slot != i) } : State).evalEnable i

/-- A teardown outside a commit: the removals are one change of committed power (R24). -/
def State.teardown (s : State) (i : Slot) : State := evalFlags (s.removeSlot i)

/-- The enable output deasserted (R88, R100, R109). -/
def State.deassert (s : State) (i : Slot) : State := s.onPort i fun p => { p with enable := false }

/-- The cut (R88): carried out when the slot is PRESENT, in five stages; in any other state nothing is done
(R87). -/
def State.cut (s : State) (i : Slot) (reason : CutReason) : State :=
  if (s.port i).state = .present then
    let s := (s.deassert i).teardown i
    let s := s.order i (.cut reason)
    let s := s.onPort i fun p =>
      { p with state := .penalty, penaltyEnd := some (s.now + 1000 * (s.policy i).penaltyHold) }
    s.raise .cut (some (.slot i)) reason.code
  else s

end Sys2Proof.Machine
end

