-- ==== Sys2Proof/Machine/Rounds.lean ====
section
/-!
DEFINITION. The Shed Engine's rounds and the Admission Controller's pass: victims and their order (R60, R61),
the preempt round (R76), the admission pass with its preempt hand-off (R36 to R38), the budget round under
either urgency (R59 to R63, R71), and what the Budget Monitor asks for (R49, R51).
-/

namespace Sys2Proof.Machine

/-! ## Victims -/

/-- The victim among contracts in table order: `after new old` says that the younger `new` goes before `old`. -/
def pick (eligible : Contract → Bool) (after : Contract → Contract → Bool) : List Contract → Option Contract → Option Contract
  | [], best => best
  | c :: rest, best =>
    pick eligible after rest
      (if eligible c then
        match best with
        | none => some c
        | some b => if after c b then some c else some b
      else best)

/-- Withdrawal order: lowest class first, and within a class the youngest (R60). -/
def State.withdrawBefore (s : State) (new old : Contract) : Bool := s.contractClass new ≤ s.contractClass old

/-- Shed order: lowest class first, then highest shed rank, then youngest (R61). -/
def State.shedBefore (s : State) (new old : Contract) : Bool :=
  decide (s.contractClass new < s.contractClass old)
    || (s.contractClass new == s.contractClass old
      && decide ((s.policy old.slot).shedRank ≤ (s.policy new.slot).shedRank))

/-- The OFFERED contract a round withdraws next, of the classes below `bound` (R60). -/
def State.withdrawVictim (s : State) (bound : Nat) : Option Contract :=
  pick (fun c => c.isOffered && decide (s.contractClass c < bound)) s.withdrawBefore s.adm.contracts none

/-- The HELD contract above its floor a round sheds next, of the classes below `bound` (R61). -/
def State.shedVictim (s : State) (bound : Nat) : Option Contract :=
  pick (fun c => c.isHeld && decide (s.contractClass c < bound) && decide ((s.policy c.slot).floor < c.amount))
    s.shedBefore s.adm.contracts none

/-- The HELD or SHEDDING contract whose slot an IMMEDIATE round cuts next (R71). -/
def State.cutVictim (s : State) (bound : Nat) : Option Contract :=
  pick (fun c => c.granted && decide (s.contractClass c < bound)) s.shedBefore s.adm.contracts none

/-- The classes of a budget round lie below CRITICAL (R59). -/
def budgetBound : Nat := SlotClass.critical.code

/-- The relief of a shed: the smaller of the amount minus the floor, and the need rounded up to the step (R61). -/
def State.reliefFor (s : State) (c : Contract) (need : Nat) : Nat :=
  min (c.amount - (s.policy c.slot).floor) (roundUp (s.policy c.slot).step need)

/-! ## The preempt round -/

/-- The withdrawals of a preempt round against the need still open; also whether any was made (R76 step 1).
The fuel is the number of contracts, each of which is withdrawn once at most. -/
def preemptWithdraw (bound : Nat) : Nat → Nat → State → State × Nat × Bool
  | 0, need, s => (s, need, false)
  | fuel + 1, need, s =>
    if need = 0 then (s, need, false)
    else match s.withdrawVictim bound with
      | none => (s, need, false)
      | some c =>
        let r := preemptWithdraw bound fuel (need - c.amount) (s.withdraw c.slot c.tag)
        (r.1, r.2.1, true)

/-- The sheds of a preempt round against the need still open (R76 step 2). -/
def preemptShed (bound : Nat) : Nat → Nat → State → State
  | 0, _, s => s
  | fuel + 1, need, s =>
    if need = 0 then s
    else match s.shedVictim bound with
      | none => s
      | some c =>
        preemptShed bound fuel (need - s.reliefFor c need)
          (s.issueShed c.slot c.tag (c.amount - s.reliefFor c need) false)

/-- A preempt round (R76), with whether it withdrew anything, which calls for one admission pass (R58). -/
def preemptRound (r : PreemptRecord) (s : State) : State × Bool :=
  let w := preemptWithdraw r.cls.code s.adm.contracts.length r.need s
  (preemptShed r.cls.code w.1.adm.contracts.length w.2.1 w.1, w.2.2)

/-! ## The admission pass -/

/-- What the pass does at one entry (R36, R37). -/
inductive PassStep where
  /-- Test 1: the table is full; the pass stops. -/
  | full
  /-- Test 2, or the ceiling case of R37: the entry is passed over. -/
  | passed
  /-- Test 3: the entry is admitted for this amount. -/
  | taken (amount : Nat)
  /-- Test 4, or the limit case of R37: the pass stops at the entry. -/
  | blocked
deriving DecidableEq, Repr

/-- The tests of R36 at an entry, with R37's figure, in the order given. -/
def State.passStep (s : State) (e : QueueEntry) : PassStep :=
  if Config.contractPlaces ≤ s.adm.contracts.length then .full
  else if s.ceilingRoom e.slot < e.least then .passed
  else if s.bud.overcommit = false ∧ e.least ≤ s.room then
    if e.least ≤ s.offerAmount e.slot e.want then .taken (s.offerAmount e.slot e.want)
    else if roundDown (s.policy e.slot).step (s.ceilingRoom e.slot) < e.least then .passed
    else .blocked
  else .blocked

/-- An entry admitted by a pass becomes an OFFERED contract under its own slot and tag (R37). -/
def State.grantEntry (s : State) (e : QueueEntry) (amount : Nat) : State :=
  (s.leaveQueue e.slot e.tag).createOffer e.slot e.tag amount

/-- The walk of a pass over the entries in service order (R36), with the entry the limit blocked, if any. -/
def passWalk : List QueueEntry → State → State × Option QueueEntry
  | [], s => (s, none)
  | e :: rest, s =>
    match s.passStep e with
    | .full => (s, none)
    | .passed => passWalk rest s
    | .taken amount => passWalk rest (s.grantEntry e amount)
    | .blocked => (s, some e)

/-- The preempt request for an entry at which a pass stopped (R38). -/
def State.requestFor (s : State) (e : QueueEntry) : PreemptRecord :=
  ⟨e.slot, e.tag, (s.policy e.slot).cls, roundUp (s.policy e.slot).step e.least - s.room⟩

/-- The three conditions of the hand-off (R38). -/
def State.mayRequest (s : State) (e : QueueEntry) : Bool :=
  (s.policy e.slot).preempt && decide (SlotClass.low.code < (s.policy e.slot).cls.code) && !e.reliefRequested

/-- The entry's relief-requested flag set (R38). -/
def State.markRequested (s : State) (e : QueueEntry) : State :=
  { s with adm.queue := modifyFirst (QueueEntry.isOf e.slot e.tag) (fun x => { x with reliefRequested := true }) s.adm.queue }

/-- The hand-off (R38, R75): the flag is set, and where the record is absent the request is taken and its round
run at once. Also whether that round calls for an admission pass. -/
def handOff (e : QueueEntry) (s : State) : State × Bool :=
  if s.mayRequest e then
    match s.eng.record with
    | some _ => (s.markRequested e, false)
    | none => preemptRound (s.requestFor e) { s.markRequested e with eng.record := some (s.requestFor e) }
  else (s, false)

/-- Admission passes, each run after the round that the one before it led to (R36, R58). Each hand-off that is
taken sets one more relief-requested flag, so the fuel of `runPass` is not spent before the last pass. -/
def admissionPass : Nat → State → State
  | 0, s => s
  | fuel + 1, s =>
    match passWalk s.adm.queue s with
    | (s', none) => s'
    | (s', some e) =>
      match handOff e s' with
      | (s'', true) => admissionPass fuel s''
      | (s'', false) => s''

/-- One admission pass (R35), with the passes that its preempt rounds call for. -/
def runPass (s : State) : State := admissionPass (s.adm.queue.length + 1) s

/-! ## The budget round -/

/-- The need of a budget round: committed power minus the limit minus pledged relief, 0 when that is negative
(R59). -/
def State.need (s : State) : Nat := s.adm.committed - (s.bud.limit + s.eng.pledged)

/-- The withdrawals of a budget round; also whether any was made (R60). -/
def budgetWithdraw : Nat → State → State × Bool
  | 0, s => (s, false)
  | fuel + 1, s =>
    if s.need = 0 then (s, false)
    else match s.withdrawVictim budgetBound with
      | none => (s, false)
      | some c => ((budgetWithdraw fuel (s.withdraw c.slot c.tag)).1, true)

/-- The sheds of a NORMAL budget round (R61). -/
def budgetShed : Nat → State → State
  | 0, s => s
  | fuel + 1, s =>
    if s.need = 0 then s
    else match s.shedVictim budgetBound with
      | none => s
      | some c => budgetShed fuel (s.issueShed c.slot c.tag (c.amount - s.reliefFor c s.need) false)

/-- The cuts of an IMMEDIATE budget round; also whether any was made (R71). -/
def budgetCut : Nat → State → State × Bool
  | 0, s => (s, false)
  | fuel + 1, s =>
    if s.need = 0 then (s, false)
    else match s.cutVictim budgetBound with
      | none => (s, false)
      | some c => ((budgetCut fuel (s.cut c.slot .immediate)).1, true)

/-- The acts of a budget round: the withdrawals, and then the sheds or the cuts (R60, R61, R71); also whether it
withdrew or cut anything. -/
def budgetActs (urgency : Urgency) (s : State) : State × Bool :=
  let w := budgetWithdraw s.adm.contracts.length s
  match urgency with
  | .normal => (budgetShed w.1.adm.contracts.length w.1, w.2)
  | .immediate =>
    let c := budgetCut w.1.adm.contracts.length w.1
    (c.1, w.2 || c.2)

/-- A budget round (R59 to R63, R71); when it ends, one admission pass if it withdrew or cut anything (R58). -/
def budgetRound (urgency : Urgency) (s : State) : State :=
  let r := budgetActs urgency s
  if r.2 then runPass r.1 else r.1

/-- A round re-check is a budget round of NORMAL urgency (R57). -/
def recheck (s : State) : State := budgetRound .normal s

/-- The round re-check, where one is called for. -/
def recheckIf (called : Bool) (s : State) : State := if called then recheck s else s

/-! ## What follows an event -/

/-- A closing outside a round or commit: the pass, then the re-check if the contract was SHEDDING (R22, R35). -/
def afterClose (wasShedding : Bool) (s : State) : State := recheckIf wasShedding (runPass s)

/-- A teardown of a slot, outside a round or commit, by loss or PORT_RESET: one pass follows if the slot held
anything, then a re-check if it held a SHEDDING contract (R24). -/
def tearAndFollow (i : Slot) (s : State) : State :=
  if s.heldBy i = 0 then s.teardown i else afterClose (s.sheds i) (s.teardown i)

/-- A cut ordered by a shed deadline, the Draw Monitor or FORCE_CUT: the pass and the re-check follow once its
five stages are complete (R89). -/
def cutAndFollow (i : Slot) (reason : CutReason) (s : State) : State :=
  if (s.port i).state = .present ∧ s.heldBy i ≠ 0 then afterClose (s.sheds i) (s.cut i reason)
  else s.cut i reason

/-- The requests after figures worked out on a BUDGET frame or a stale expiry, from the limit held before
(R49): a round on a fall, a pass on a rise. -/
def requestOnChange (before : Nat) (urgency : Urgency) (s : State) : State :=
  if s.bud.limit < before then budgetRound urgency s
  else if before < s.bud.limit then runPass s
  else s

/-- The requests after a configuration change or a load (R51): a pass if the limit rose, then a NORMAL round. -/
def requestOnConfig (before : Nat) (s : State) : State :=
  budgetRound .normal (if before < s.bud.limit then runPass s else s)

end Sys2Proof.Machine
end

