-- ==== Sys2Proof/Machine/Links.lean ====
section
/-!
DEFINITION. Receiving on a link: receive errors and their counts (R179), when the receive checks are made (R95,
R141, R165), a module's frame at its Slot Port with proof of life (R6, R99), a frame of the supply link, and
BYTE_GAP_TIMEOUT.
-/

namespace Sys2Proof.Machine

/-- The outcome of a meaning: commands of this part always end in a next state. -/
abbrev Out := Host.Outcome State Fault Refusal

/-- The origin of LINK_ERRORS: the slot, or the supply link (R179). -/
def Link.origin : Link → Origin
  | .slot i => .slot i
  | .supply => .supply

/-- A port's receiver hunts, with no gap timer running (R176). -/
def SlotPort.hunt (p : SlotPort) : SlotPort := { p with receiver := huntingReceiver }

/-- A link's receiver put in a state (R176). -/
def State.setReceiver (s : State) (link : Link) (r : Receiver) : State :=
  match link with
  | .slot i => s.onPort i fun p => { p with receiver := r }
  | .supply => { s with supply.receiver := r }

/-- A link's receiver (R176). -/
def State.receiver (s : State) : Link → Receiver
  | .slot i => (s.port i).receiver
  | .supply => s.supply.receiver

/-- After a complete frame the link's receiver hunts (R176). -/
def State.hunt (s : State) (link : Link) : State := s.setReceiver link huntingReceiver

/-- The link's count for the error class rises by 1 (R179). -/
def State.countError (s : State) (link : Link) (e : LinkError) : State :=
  match link, e with
  | .slot i, .framing => s.onPort i fun p => { p with framingErrors := countUp p.framingErrors }
  | .slot i, .crc => s.onPort i fun p => { p with crcErrors := countUp p.crcErrors }
  | .supply, .framing => { s with supply.framingErrors := countUp s.supply.framingErrors }
  | .supply, .crc => { s with supply.crcErrors := countUp s.supply.crcErrors }

/-- A receive error on a link: counted, and LINK_ERRORS raised (R179). -/
def State.linkError (s : State) (link : Link) (e : LinkError) : State :=
  (s.countError link e).raise .linkErrors (some (Link.origin link)) e.code

/-- Whether the receive checks are made on a link: not while STARTING or in a restart wait, and not on the link
of a DISABLED slot (R95, R141, R165). -/
def State.receives (s : State) : Link → Bool
  | .slot i => s.active && (s.port i).state != .disabled
  | .supply => s.active

/-- A frame whose payload no frame of its kind may have: a framing error where the checks are made (R178
check 3, R169). -/
def malformedFrame (link : Link) (s : State) : State :=
  if s.receives link then (s.hunt link).linkError link .framing else s

/-! ## A module's frame -/

/-- Proof of life (R99): the miss count is 0, the probe deadline is restarted, an open window closes. -/
def State.proofOfLife (s : State) (i : Slot) : State :=
  s.onPort i fun p =>
    { p with missCount := 0, probeDeadline := some (s.now + s.pol.items.probeInterval), answerDeadline := none }

/-- A valid frame of a module other than PRESENT: discarded in DISABLED and VACANT, handed on in JOINING, proof
of life and handed on in PRESENT, PENALTY and MISMATCH (R6, R95, R96, R98, R99). DESIGN CHOICE: R174 says of a frame
taken after a commit that disables the slot that it is dropped and counted, while R95 and R169 discard a DATA of a
DISABLED slot uncounted; DATA follows R95 and R169 (notes/assumptions/20.md). DESIGN CHOICE: R121 says of an ACCEPT
taken after a commit that closes its offer by disabling the slot that it is answered REFUSE(STALE), while R6, R25 and
R95 discard it unanswered; every power frame follows R6, R25 and R95 (notes/assumptions/23.md). -/
def moduleFrame (i : Slot) (handle : State → State) (s : State) : State :=
  if s.receives (.slot i) then
    let s := s.hunt (.slot i)
    match (s.port i).state with
    | .disabled | .vacant => s
    | .joining => handle s
    | .present | .penalty | .mismatch => handle (s.proofOfLife i)
  else s

/-! ## A frame of the supply link -/

/-- A valid frame of the supply link, handed to the block that takes it (R165, R141, R178). -/
def supplyFrame (handle : State → State) (s : State) : State :=
  if s.receives .supply then handle (s.hunt .supply) else s

/-! ## The gap timer -/

/-- The gap after a byte of a frame passes: the frame is abandoned as a framing error, and the receiver hunts
(R176). With no frame in progress no gap timer runs. -/
def abandonFrame (link : Link) (s : State) : State :=
  if s.receives link then
    match (s.receiver link).gapDeadline with
    | none => s
    | some d => (((s.reach d).hunt link).linkError link .framing)
  else s

/-- BYTE_GAP_TIMEOUT (R176). -/
def execByteGapTimeout (link : Link) (s : State) : Out := .next (abandonFrame link s)

end Sys2Proof.Machine
end

