-- ==== Sys2Proof/Machine/Forwarding.lean ====
section
/-!
DEFINITION. The Forwarding Unit: DATA from a module (R169, R170) and DATA_DOWN from the shelf manager (R171, R172).
-/

namespace Sys2Proof.Machine

/-- A dropped DATA or DATA_DOWN frame: counted against the slot, and FORWARD_DROP raised with the count after the
rise (R170, R172). -/
def State.dropForward (s : State) (i : Slot) : State :=
  let s := s.onPort i fun p => { p with forwardDrops := countUp p.forwardDrops }
  s.raise .forwardDrop (some (.slot i)) (s.port i).forwardDrops

/-- Whether a slot's traffic is relayed: the slot is PRESENT or PENALTY and its forward field is yes (R169,
R171). -/
def State.relays (s : State) (i : Slot) : Bool :=
  ((s.port i).state == .present || (s.port i).state == .penalty) && (s.policy i).forward

/-- A DATA frame at the Forwarding Unit (R169). -/
def takeData (i : Slot) (seq : Byte) (payload : List Byte) (s : State) : State :=
  if s.relays i && decide (s.forward.length < Config.forwardPlaces) then
    { s with forward := s.forward ++ [⟨i, seq, payload⟩] }
  else s.dropForward i

/-- DATA (R169). A payload of more than 31 bytes is a framing error. -/
def execData (i : Slot) (seq : Byte) (payload : List Byte) (s : State) : Out :=
  .next (if payload.length ≤ 31 then moduleFrame i (takeData i seq payload) s else malformedFrame (.slot i) s)

/-- A DATA_DOWN frame at the Forwarding Unit (R171). -/
def takeDataDown (seq slot : Byte) (payload : List Byte) (s : State) : State :=
  match slotOf? slot with
  | none => s.linkError .supply .framing
  | some i =>
    if s.relays i && decide ((s.port i).downstream.length < Config.downstreamPlaces) then
      s.onPort i fun p => { p with downstream := p.downstream ++ [⟨seq, payload⟩] }
    else s.dropForward i

/-- DATA_DOWN (R171). A payload of more than 31 bytes after the slot byte is a framing error. -/
def execDataDown (seq slot : Byte) (payload : List Byte) (s : State) : Out :=
  .next (if payload.length ≤ 31 then supplyFrame (takeDataDown seq slot payload) s else malformedFrame .supply s)

end Sys2Proof.Machine
end

