-- ==== Sys2Proof/Machine/Budget.lean ====
section
/-!
DEFINITION. BUDGET (R45 to R47), the stale timer (R48), NOTICE_ACK (R154) and the retransmit deadline (R153).
-/

namespace Sys2Proof.Machine

/-- Whether a BUDGET frame is fresh (R45). -/
def State.fresh (s : State) (seq : Byte) : Bool :=
  match s.bud.lastSequence with
  | none => true
  | some last => 1 ≤ (seq - last).toNat && (seq - last).toNat ≤ 127

/-- Steps 1 to 3 of R46: the announcement recorded, the timer restarted, a set stale flag cleared with
BUDGET_RESUMED. -/
def State.announce (s : State) (seq : Byte) (amount : Nat) : State :=
  let told : State :=
    { s with
      bud.announced := some amount
      bud.lastSequence := some seq
      bud.staleDeadline := some (s.now + s.pol.items.staleTimeout)
      bud.stale := false }
  if s.bud.stale then told.raise .budgetResumed none amount else told

/-- The IMMEDIATE round that a frame asks for when it has not lowered the limit and leaves the shelf
overcommitted (R47). -/
def immediateIfOver (before : Nat) (urgency : Urgency) (s : State) : State :=
  if urgency = .immediate ∧ before ≤ s.bud.limit ∧ s.bud.limit < s.adm.committed then budgetRound .immediate s else s

/-- A BUDGET frame at the Budget Monitor (R45 to R47). -/
def takeBudget (seq : Byte) (amount : Nat) (urgency : Urgency) (s : State) : State :=
  if s.fresh seq then
    immediateIfOver s.bud.limit urgency (requestOnChange s.bud.limit urgency (recompute (s.announce seq amount)))
  else s

/-- BUDGET (R45). -/
def execBudget (seq : Byte) (amount : Half) (urgency : Urgency) (s : State) : Out :=
  .next (supplyFrame (takeBudget seq amount.toNat urgency) s)

/-- The expiry of the stale deadline (R48). -/
def expireStale (s : State) : State :=
  match s.bud.staleDeadline with
  | none => s
  | some d =>
    if s.active then
      let before := s.bud.limit
      let s : State := { s.reach d with bud.staleDeadline := none, bud.stale := true }
      let s := s.raise .budgetStale none (min s.pol.items.budgetCap s.pol.items.safeBudget)
      requestOnChange before .normal (recompute s)
    else s

/-- STALE_DEADLINE (R48). -/
def execStaleDeadline (s : State) : Out := .next (expireStale s)

/-- A NOTICE_ACK at the Notice Unit (R154). -/
def takeNoticeAck (seq : Byte) (s : State) : State := { s with ntc := s.ntc.acknowledge seq }

/-- NOTICE_ACK (R154). -/
def execNoticeAck (seq : Byte) (s : State) : Out := .next (supplyFrame (takeNoticeAck seq) s)

/-- The expiry of the SENT record's retransmit deadline (R153). -/
def expireRetransmit (s : State) : State :=
  match s.ntc.queue.find? Notice.isSent with
  | none => s
  | some n =>
    match n.deadline? with
    | none => s
    | some d =>
      if s.active then { s.reach d with ntc := s.ntc.retransmit s.pol.items.eventMask n } else s

/-- RETRANSMIT_DEADLINE (R153). -/
def execRetransmitDeadline (s : State) : Out := .next (expireRetransmit s)

end Sys2Proof.Machine
end

