-- ==== Sys2Proof/Machine/Presence.lean ====
section
/-!
DEFINITION. The slot state machine but for the cut and the commit: PRESENT frames (R97, R98, R101), probing (R96,
R99), answer windows and loss (R97 to R100), and the end of a penalty hold (R91).
-/

namespace Sys2Proof.Machine

/-- Whether a slot's record takes the declared class: the required class is 0 or equals it (R98, R91, R101). -/
def Policy.accepts (p : Policy) (d : Option Declared) : Bool :=
  p.requiredClass == 0 || d.any (·.cls == p.requiredClass)

/-- The declared class as an event's detail. -/
def declaredDetail (d : Option Declared) : Nat := (d.map (·.cls.toNat)).getD 0

/-- The present time plus PROBE_INTERVAL (R96, R99). -/
def State.nextProbe (s : State) : Time := s.now + s.pol.items.probeInterval

/-- A slot enters a state in which its module is known, and the event of that entry is raised (R91, R98, R101,
R118). -/
def State.enterKnown (s : State) (i : Slot) (state : SlotState) (event : EventKind) : State :=
  ((s.onPort i fun p => { p with state := state }).evalEnable i).raise event (some (.slot i))
    (declaredDetail (s.port i).declared)

/-- A slot enters VACANT (R96); `probe` is its probe deadline from then on. -/
def State.enterVacant (s : State) (i : Slot) (probe : Option Time) : State :=
  (s.onPort i fun p =>
    { p with
      state := .vacant, joinCount := 0, missCount := 0, declared := none, answerDeadline := none,
      penaltyEnd := none, probeDeadline := probe }).evalEnable i

/-! ## PRESENT -/

/-- The second answer in a row: the slot leaves JOINING for PRESENT or MISMATCH (R98). -/
def State.join (s : State) (i : Slot) : State :=
  let s := s.onPort i fun p =>
    { p with joinCount := 2, missCount := 0, probeDeadline := some s.nextProbe, answerDeadline := none }
  if (s.policy i).accepts (s.port i).declared then s.enterKnown i .present .slotJoined
  else s.enterKnown i .mismatch .slotMismatch

/-- The declared values replaced by a PRESENT frame's. -/
def State.declare (s : State) (i : Slot) (d : Declared) : State := s.onPort i fun p => { p with declared := some d }

/-- The declared peak replaced, the declared class as it was (R101). -/
def State.declarePeak (s : State) (i : Slot) (peak : Nat) : State :=
  s.onPort i fun p => { p with declared := p.declared.map fun d => { d with peak := peak } }

/-- A PRESENT frame at its Slot Port, by the slot's state (R97, R98, R101). -/
def takePresent (i : Slot) (d : Declared) (s : State) : State :=
  if s.receives (.slot i) then
    let s := s.hunt (.slot i)
    match (s.port i).state with
    | .disabled => s
    | .vacant =>
      if (s.port i).answerDeadline.isSome then
        (s.declare i d).onPort i fun p => { p with state := .joining, joinCount := 1, answerDeadline := none }
      else s
    | .joining => if (s.port i).answerDeadline.isSome then (s.declare i d).join i else s
    | .present | .penalty => (s.proofOfLife i).declarePeak i d.peak
    | .mismatch =>
      let s := (s.proofOfLife i).declare i d
      if (s.policy i).accepts (s.port i).declared then s.enterKnown i .present .slotJoined else s
  else s

/-- PRESENT (R97). -/
def execPresent (i : Slot) (cls : Byte) (peak : Half) (s : State) : Out :=
  .next (takePresent i ⟨cls, peak.toNat⟩ s)

/-! ## Probing -/

/-- The expiry of a slot's probe deadline: PROBE placed, an answer window opened, the next probe due one
interval later (R96, R99). -/
def expireProbe (i : Slot) (s : State) : State :=
  match (s.port i).probeDeadline with
  | none => s
  | some d =>
    if s.active then
      let s := (s.reach d).order i .probe
      s.onPort i fun p =>
        { p with answerDeadline := some (s.now + Config.answerWindow), probeDeadline := some s.nextProbe }
    else s

/-- PROBE_DEADLINE (R96). -/
def execProbeDeadline (i : Slot) (s : State) : Out := .next (expireProbe i s)

/-- The three queues of a port emptied; a frame in transmission runs to its end (R100, R109). -/
def State.emptyQueues (s : State) (i : Slot) : State :=
  s.onPort i fun p => { p with orders := [], replies := [], downstream := [] }

/-- A slot is LOST (R100): its six stages, with the pass and re-check that its teardown calls for. -/
def State.lose (s : State) (i : Slot) : State :=
  let removed := s.heldBy i
  let s := tearAndFollow i (s.deassert i)
  let s := (s.emptyQueues i).enterVacant i (some s.nextProbe)
  s.raise .slotLost (some (.slot i)) removed

/-- An answer window that closes unanswered (R97, R98, R99). -/
def closeWindow (i : Slot) (s : State) : State :=
  match (s.port i).state with
  | .disabled | .vacant => s.onPort i fun p => { p with answerDeadline := none, joinCount := 0 }
  | .joining => s.enterVacant i (s.port i).probeDeadline
  | .present | .penalty | .mismatch =>
    let s := s.onPort i fun p => { p with answerDeadline := none, missCount := p.missCount + 1 }
    if Config.lostMisses ≤ (s.port i).missCount then s.lose i else s

/-- The expiry of a slot's answer deadline. -/
def expireAnswer (i : Slot) (s : State) : State :=
  match (s.port i).answerDeadline with
  | none => s
  | some d => if s.active then closeWindow i (s.reach d) else s

/-- ANSWER_DEADLINE (R99). -/
def execAnswerDeadline (i : Slot) (s : State) : Out := .next (expireAnswer i s)

/-! ## The end of a penalty hold -/

/-- The end of a slot's penalty hold (R91): no event is raised but SLOT_MISMATCH. -/
def endPenalty (i : Slot) (s : State) : State :=
  match (s.port i).penaltyEnd with
  | none => s
  | some d =>
    if s.active ∧ (s.port i).state = .penalty then
      let s := (s.reach d).onPort i fun p => { p with penaltyEnd := none }
      if (s.policy i).accepts (s.port i).declared then
        (s.onPort i fun p => { p with state := .present }).evalEnable i
      else s.enterKnown i .mismatch .slotMismatch
    else s

/-- PENALTY_END_TIME (R91). -/
def execPenaltyEndTime (i : Slot) (s : State) : Out := .next (endPenalty i s)

end Sys2Proof.Machine
end

