-- ==== Sys2Proof/Machine/ModulePower.lean ====
section
/-!
DEFINITION. The power frames of a module: CLAIM, ACCEPT, DECLINE, RELEASE, ADJUST, RENEW, REPORT and COMPLY, with
the Draw Monitor's judgement of a report (R7 to R21, R29, R30, R67 to R69, R79 to R83).
-/

namespace Sys2Proof.Machine

/-- A REFUSE answer. -/
def State.refuse (s : State) (i : Slot) (t : Byte) (reason : RefuseReason) : State := s.reply i (.refuse t reason)

/-! ## CLAIM -/

/-- The checks of R7 on a claim, in order: the reason of the first that fails. -/
def State.claimRefusal (s : State) (i : Slot) (t : Byte) (want least : Nat) : Option RefuseReason :=
  match (s.port i).state with
  | .penalty => some .penalty
  | .mismatch => some .mismatch
  | .joining | .vacant | .disabled => some .notReady
  | .present =>
    if least < 1 ∨ want < least then some .malformed
    else if s.tagInUse i t then some .tagInUse
    else if (s.policy i).maxContracts ≤ s.heldBy i then some .slotLimit
    else if ((s.port i).declared.any fun d => decide (d.peak ≠ 0 ∧ d.peak < want)) then some .beyondDeclared
    else if (s.policy i).ceiling < roundUp (s.policy i).step least then some .ceiling
    else none

/-- Whether a claim that passed its checks is offered power at once: none of the bars of R8 holds and its
rounded least fits in room and ceiling room. -/
def State.offersNow (s : State) (i : Slot) (least : Nat) : Bool :=
  !s.bud.overcommit && !s.barred i && decide (s.adm.contracts.length < Config.contractPlaces)
    && decide (least ≤ min s.room (s.ceilingRoom i))

/-- The service order with an entry placed after every entry of its class and of higher classes (R29). -/
def State.insertEntry (s : State) (e : QueueEntry) : List QueueEntry → List QueueEntry
  | [] => [e]
  | x :: rest => if s.entryClass e ≤ s.entryClass x then x :: s.insertEntry e rest else e :: x :: rest

/-- The position of a slot's claim in the service order (R28). -/
def State.position (s : State) (i : Slot) (t : Byte) : Nat := s.adm.queue.findIdx (QueueEntry.isOf i t)

/-- A claim placed in the queue and answered QUEUED (R29); its want and least are the rounded figures. -/
def State.placeClaim (s : State) (i : Slot) (t : Byte) (want least : Nat) : State :=
  let deadline := if (s.policy i).waitLimit = 0 then none else some (s.now + 1000 * (s.policy i).waitLimit)
  let placed : State :=
    { s with
      adm.queue := s.insertEntry ⟨i, t, want, least, deadline, false⟩ s.adm.queue
      adm.arrival := s.adm.arrival ++ [(i, t)] }
  placed.reply i (.queued t (placed.position i t))

/-- A claim that goes to the queue: placed where there is a place (R29); at a full queue it displaces the last
entry when that is of lower class, and an admission pass follows, or it is refused (R30). -/
def State.queueClaim (s : State) (i : Slot) (t : Byte) (want least : Nat) : State :=
  if s.adm.queue.length < Config.queuePlaces then s.placeClaim i t want least
  else match s.adm.queue.getLast? with
    | none => s.refuse i t .queueFull
    | some last =>
      if s.entryClass last < (s.policy i).cls.code then
        runPass (((s.leaveQueue last.slot last.tag).refuse last.slot last.tag .displaced).placeClaim i t want least)
      else s.refuse i t .queueFull

/-- A CLAIM at the Admission Controller (R7, R8). -/
def takeClaim (i : Slot) (t : Byte) (want least : Nat) (s : State) : State :=
  match s.claimRefusal i t want least with
  | some reason => s.refuse i t reason
  | none =>
    let step := (s.policy i).step
    if s.offersNow i (roundUp step least) then s.createOffer i t (s.offerAmount i (roundWant step want))
    else s.queueClaim i t (roundWant step want) (roundUp step least)

/-- CLAIM (R7). -/
def execClaim (i : Slot) (t : Byte) (want least : Half) (s : State) : Out :=
  .next (moduleFrame i (takeClaim i t want.toNat least.toNat) s)

/-! ## ACCEPT and DECLINE -/

/-- The report deadline set now: 3 times the slot's report interval away, absent when that is 0 (R11, R81,
R84). -/
def State.reportDeadline (s : State) (i : Slot) : Option Time :=
  if (s.policy i).reportInterval = 0 then none else some (s.now + 3 * (s.policy i).reportInterval)

/-- The lease expiry set now, absent when the slot's lease is 0 (R11, R19). -/
def State.leaseExpiry (s : State) (i : Slot) : Option Time :=
  if (s.policy i).lease = 0 then none else some (s.now + 1000 * (s.policy i).lease)

/-- An ACCEPT at the Admission Controller (R11, R12). -/
def takeAccept (i : Slot) (t : Byte) (s : State) : State :=
  match s.contract? i t with
  | none => s.refuse i t .stale
  | some c =>
    if c.isOffered then
      let g : Grant := ⟨s.leaseExpiry i, 0, s.reportDeadline i⟩
      ((s.onContract i t fun c => { c with state := .held g }).evalEnable i).reply i (.granted t c.amount)
    else s.refuse i t .wrongState

/-- ACCEPT (R11). -/
def execAccept (i : Slot) (t : Byte) (s : State) : Out := .next (moduleFrame i (takeAccept i t) s)

/-- A DECLINE at the Admission Controller (R12, R13). -/
def takeDecline (i : Slot) (t : Byte) (s : State) : State :=
  match s.contract? i t with
  | none => s.refuse i t .stale
  | some c =>
    if c.isOffered then runPass ((s.closeContract i t).reply i (.closed t .declined))
    else s.refuse i t .wrongState

/-- DECLINE (R13). -/
def execDecline (i : Slot) (t : Byte) (s : State) : Out := .next (moduleFrame i (takeDecline i t) s)

/-! ## RELEASE -/

/-- A RELEASE at the Admission Controller: of a contract in any state, of a queued claim, or of neither (R14). -/
def takeRelease (i : Slot) (t : Byte) (s : State) : State :=
  match s.contract? i t with
  | some c => afterClose c.isShedding ((s.closeContract i t).reply i (.closed t .released))
  | none =>
    match s.claim? i t with
    | some _ => runPass ((s.leaveQueue i t).reply i (.closed t .released))
    | none => s.refuse i t .unknownTag

/-- RELEASE (R14). -/
def execRelease (i : Slot) (t : Byte) (s : State) : Out := .next (moduleFrame i (takeRelease i t) s)

/-! ## Compliance -/

/-- A contract with a new amount. -/
def Contract.withAmount (amount : Nat) (c : Contract) : Contract := { c with amount := amount }

/-- A SHEDDING contract back in HELD at a new amount; its target, shed deadline and forced mark are discarded
(R67). -/
def Contract.complied (amount : Nat) (c : Contract) : Contract :=
  match c.state with
  | .shedding g _ => { c with amount := amount, state := .held g }
  | .offered _ | .held _ => c

/-- Compliance of the slot's SHEDDING contract `c` at an amount: table, committed power with its flags, pledged
relief (R67 steps 1 to 4). -/
def State.comply (s : State) (i : Slot) (t : Byte) (c : Contract) (amount : Nat) : State :=
  let lowered : State := { s.onContract i t (Contract.complied amount) with
    adm.committed := s.adm.committed - (c.amount - amount) }
  let told : State := { evalFlags lowered with eng.pledged := s.eng.pledged - c.relief }
  told

/-- What follows compliance: an admission pass, then a round re-check (R67 step 5). -/
def afterComply (s : State) : State := afterClose true s

/-! ## ADJUST -/

/-- An ADJUST of a HELD contract to a rounded amount (R16, R17). -/
def adjustHeld (i : Slot) (t : Byte) (c : Contract) (amount : Nat) (s : State) : State :=
  if c.amount + s.ceilingRoom i < amount then s.refuse i t .ceiling
  else if amount = c.amount then s.reply i (.granted t amount)
  else if amount < c.amount then
    let lowered : State := { s.onContract i t (Contract.withAmount amount) with
      adm.committed := s.adm.committed - (c.amount - amount) }
    runPass ((evalFlags lowered).reply i (.granted t amount))
  else if s.bud.overcommit = true ∨ s.barred i = true ∨ s.room < amount - c.amount then s.refuse i t .noRoom
  else
    let raised : State := { s.onContract i t (Contract.withAmount amount) with
      adm.committed := s.adm.committed + (amount - c.amount) }
    (evalFlags raised).reply i (.granted t amount)

/-- An ADJUST at the Admission Controller (R15 to R18). -/
def takeAdjust (i : Slot) (t : Byte) (asked : Nat) (s : State) : State :=
  match s.contract? i t with
  | none => s.refuse i t .unknownTag
  | some c =>
    let amount := roundUp (s.policy i).step asked
    match c.state with
    | .offered _ => s.refuse i t .wrongState
    | .held _ => if amount = 0 then s.refuse i t .malformed else adjustHeld i t c amount s
    | .shedding _ sh =>
      if amount = 0 then s.refuse i t .malformed
      else if amount ≤ sh.target then afterComply ((s.comply i t c amount).reply i (.granted t amount))
      else s.refuse i t .wrongState

/-- ADJUST (R15). -/
def execAdjust (i : Slot) (t : Byte) (asked : Half) (s : State) : Out :=
  .next (moduleFrame i (takeAdjust i t asked.toNat) s)

/-! ## RENEW -/

/-- A granted contract with its grant changed. -/
def Contract.onGrant (f : Grant → Grant) (c : Contract) : Contract :=
  match c.state with
  | .offered _ => c
  | .held g => { c with state := .held (f g) }
  | .shedding g sh => { c with state := .shedding (f g) sh }

/-- A RENEW at the Admission Controller (R19). -/
def takeRenew (i : Slot) (t : Byte) (s : State) : State :=
  match s.contract? i t with
  | none => s.refuse i t .unknownTag
  | some c =>
    if c.granted then
      (s.onContract i t (Contract.onGrant fun g => { g with leaseExpiry := s.leaseExpiry i })).reply i
        (.granted t c.amount)
    else s.refuse i t .wrongState

/-- RENEW (R19). -/
def execRenew (i : Slot) (t : Byte) (s : State) : Out := .next (moduleFrame i (takeRenew i t) s)

/-! ## REPORT -/

/-- The violation action (R82, R83): VIOLATION, and under CUT the slot is cut with the reason. -/
def violate (i : Slot) (reason : CutReason) (detail : Nat) (s : State) : State :=
  let raised := s.raise .violation (some (.slot i)) detail
  match (s.policy i).action with
  | .notify => raised
  | .cut => cutAndFollow i reason raised

/-- The allowance on an amount: the amount plus the tolerance's percentage of it, rounded down (R80). -/
def allowance (tolerance amount : Nat) : Nat := amount + amount * tolerance / 100

/-- The over-count of a granted contract. DESIGN CHOICE: 0 for an OFFERED one, which has none (R2, R79), and whose byte
in the CONTRACT entry the spec gives no value (notes/assumptions/24.md). -/
def Contract.overCount (c : Contract) : Nat :=
  match c.state with
  | .offered _ => 0
  | .held g | .shedding g _ => g.overCount

/-- The Draw Monitor's taking of a report on a granted contract (R81). -/
def judgeReport (i : Slot) (t : Byte) (measured : Nat) (s : State) : State :=
  match s.contract? i t with
  | none => s
  | some c =>
    let setCount (n : Nat) := s.onContract i t
      (Contract.onGrant fun g => { g with overCount := n, reportDeadline := s.reportDeadline i })
    if measured ≤ allowance (s.policy i).tolerance c.amount then setCount 0
    else if c.overCount + 1 < (s.policy i).debounce then setCount (c.overCount + 1)
    else violate i .overdraw measured (setCount 0)

/-- A REPORT that names no granted contract: a stray frame, not answered (R21, R110). -/
def State.stray (s : State) (i : Slot) : State := s.onPort i fun p => { p with strayFrames := countUp p.strayFrames }

/-- A REPORT at the Admission Controller: any compliance it makes, then the Draw Monitor (R21, R69). -/
def takeReport (i : Slot) (t : Byte) (measured : Nat) (s : State) : State :=
  match s.contract? i t with
  | none => s.stray i
  | some c =>
    match c.state with
    | .offered _ => s.stray i
    | .held _ => judgeReport i t measured s
    | .shedding _ sh =>
      if measured ≤ sh.target then judgeReport i t measured (afterComply (s.comply i t c sh.target))
      else judgeReport i t measured s

/-- REPORT (R21). -/
def execReport (i : Slot) (t : Byte) (measured : Half) (s : State) : Out :=
  .next (moduleFrame i (takeReport i t measured.toNat) s)

/-! ## COMPLY -/

/-- A COMPLY at the Admission Controller (R21, R68). -/
def takeComply (i : Slot) (t : Byte) (s : State) : State :=
  match s.contract? i t with
  | none => s.refuse i t .unknownTag
  | some c =>
    match c.state with
    | .shedding _ sh => afterComply ((s.comply i t c sh.target).reply i (.granted t sh.target))
    | .offered _ | .held _ => s.refuse i t .wrongState

/-- COMPLY (R68). -/
def execComply (i : Slot) (t : Byte) (s : State) : Out := .next (moduleFrame i (takeComply i t) s)

end Sys2Proof.Machine
end

