-- ==== Sys2Proof/Machine/Timers.lean ====
section
/-!
DEFINITION. The expiries of contracts and queue entries: offer deadline (R10), lease expiry (R20), wait deadline
(R34), shed deadline (R70) and report deadline (R84). An expiry of a deadline that is not running, for which
there is no contract or entry, or that comes in STARTING or in a restart wait has no effect (R14, R141, R165).
-/

namespace Sys2Proof.Machine

/-- The offer deadline of a contract (R2). -/
def Contract.offerDeadline? (c : Contract) : Option Time :=
  match c.state with
  | .offered d => some d
  | .held _ | .shedding _ _ => none

/-- The lease expiry of a contract (R2). -/
def Contract.leaseExpiry? (c : Contract) : Option Time :=
  match c.state with
  | .offered _ => none
  | .held g | .shedding g _ => g.leaseExpiry

/-- The report deadline of a contract (R2). -/
def Contract.reportDeadline? (c : Contract) : Option Time :=
  match c.state with
  | .offered _ => none
  | .held g | .shedding g _ => g.reportDeadline

/-- The shed deadline of a contract (R2). -/
def Contract.shedDeadline? (c : Contract) : Option Time :=
  match c.state with
  | .offered _ | .held _ => none
  | .shedding _ sh => some sh.deadline

/-- The expiry of a deadline of the slot's contract under the tag: `act` is taken with the time base at the
deadline at least. -/
def expireContract (i : Slot) (t : Byte) (deadline? : Contract → Option Time) (act : Contract → State → State)
    (s : State) : State :=
  match s.contract? i t with
  | none => s
  | some c =>
    match deadline? c with
    | none => s
    | some d => if s.active then act c (s.reach d) else s

/-- An OFFERED contract that is not accepted in time closes with CLOSED(ACCEPT_TIMEOUT) as an order, and an
admission pass follows (R10). -/
def closeUnaccepted (i : Slot) (t : Byte) (s : State) : State :=
  runPass ((s.closeContract i t).order i (.closed t .acceptTimeout))

/-- OFFER_DEADLINE (R10). -/
def execOfferDeadline (i : Slot) (t : Byte) (s : State) : Out :=
  .next (expireContract i t Contract.offerDeadline? (fun _ => closeUnaccepted i t) s)

/-- A granted contract whose lease ends closes with CLOSED(LEASE_EXPIRED) as an order; the pass follows, and the
re-check where it was SHEDDING (R20). -/
def closeExpired (i : Slot) (t : Byte) (c : Contract) (s : State) : State :=
  afterClose c.isShedding ((s.closeContract i t).order i (.closed t .leaseExpired))

/-- LEASE_EXPIRY (R20). -/
def execLeaseExpiry (i : Slot) (t : Byte) (s : State) : Out :=
  .next (expireContract i t Contract.leaseExpiry? (closeExpired i t) s)

/-- SHED_DEADLINE (R70): the contract's slot is cut with reason SHED_FAILED. -/
def execShedDeadline (i : Slot) (t : Byte) (s : State) : Out :=
  .next (expireContract i t Contract.shedDeadline? (fun _ => cutAndFollow i .shedFailed) s)

/-- Silence on a contract (R84): under NOTIFY the deadline is restarted; the over-count is unchanged. -/
def takeSilence (i : Slot) (t : Byte) (s : State) : State :=
  match (s.policy i).action with
  | .notify =>
    violate i .silence 0 (s.onContract i t (Contract.onGrant fun g => { g with reportDeadline := s.reportDeadline i }))
  | .cut => violate i .silence 0 s

/-- REPORT_DEADLINE (R84). -/
def execReportDeadline (i : Slot) (t : Byte) (s : State) : Out :=
  .next (expireContract i t Contract.reportDeadline? (fun _ => takeSilence i t) s)

/-- A queue entry whose wait deadline passes leaves with REFUSE(WAIT_LIMIT) and QUEUE_TIMEOUT; a pass follows
(R34). -/
def expireWait (i : Slot) (t : Byte) (s : State) : State :=
  match s.claim? i t with
  | none => s
  | some e =>
    match e.waitDeadline with
    | none => s
    | some d =>
      if s.active then
        runPass ((((s.reach d).leaveQueue i t).refuse i t .waitLimit).raise .queueTimeout (some (.slot i)) t.toNat)
      else s

/-- WAIT_DEADLINE (R34). -/
def execWaitDeadline (i : Slot) (t : Byte) (s : State) : Out := .next (expireWait i t s)

end Sys2Proof.Machine
end

