-- ==== Sys2Proof/Machine/Commands.lean ====
section
/-!
DEFINITION. The Management Unit: the taking of a command (R129 to R132), its reads QUERY_STATUS and READ_ENTRY
with their layouts (R133 to R135, R182), CLEAR_EVENTS (R136), the forced commands (R72, R137, R139), PORT_RESET
(R109, R140) and RESTART (R141).
-/

namespace Sys2Proof.Machine

/-! ## Taking a command -/

/-- An ANSWER placed at the end of the answer queue (R128). -/
def State.pushAnswer (s : State) (a : Answer) : State := { s with man.answers := s.man.answers ++ [a] }

/-- Steps 3 and 4 of R129: the cached ANSWER again for the cached sequence, else the command executed, its
ANSWER placed, and both written into the cache. -/
def answerCommand (seq : Byte) (run : State → State × Settle) (s : State) : State :=
  match s.man.cache.filter (·.seq == seq) with
  | some cached => s.pushAnswer cached
  | none =>
    let r := run s
    { r.1.pushAnswer ⟨seq, r.2⟩ with man.cache := some ⟨seq, r.2⟩ }

/-- A command at the Management Unit (R129): discarded while STARTING or in a restart wait, and at a full answer
queue. -/
def takeCommand (seq : Byte) (run : State → State × Settle) (s : State) : State :=
  supplyFrame
    (fun s => if Config.answerPlaces ≤ s.man.answers.length then s else answerCommand seq run s) s

/-- ACK without data. -/
def acked (s : State) : State × Settle := (s, .ack [])

/-- NAK: no state of any block is changed (R132). -/
def naked (reason : NakReason) (s : State) : State × Settle := (s, .nak reason)

/-! ## QUERY_STATUS -/

/-- The bits of a flags or presence byte, bit 0 first (R182). DESIGN CHOICE: the bits that a layout does not name are 0
(notes/assumptions/21.md). -/
def flagByte (bits : List Bool) : Byte := byteOf ((bits.zipIdx.map fun b => if b.1 then 2 ^ b.2 else 0).sum)

/-- The STATUS record, 20 bytes (R133, R182). -/
def State.statusRecord (s : State) : List Byte :=
  [byteOf (boolCode (s.part == .running)),
    flagByte [s.store.noImage, s.bud.overcommit, s.bud.watermark, s.bud.stale, s.store.op.isSome, s.pol.dirty],
    byteOf ((s.store.loadedPage.map (·.val)).getD 0xFF)]
    ++ bytes2 s.bud.effective ++ bytes2 s.bud.limit ++ bytes2 (min s.adm.committed 65535) ++ bytes2 s.eng.pledged
    ++ [byteOf s.adm.contracts.length, byteOf s.adm.queue.length] ++ bytes3 s.ntc.flags.toNat
    ++ bytes2 s.supply.framingErrors ++ bytes2 s.supply.crcErrors

/-- QUERY_STATUS has no checks (R133). -/
def runQueryStatus (s : State) : State × Settle := (s, .ack s.statusRecord)

/-- QUERY_STATUS (R133). -/
def execQueryStatus (seq : Byte) (s : State) : Out := .next (takeCommand seq runQueryStatus s)

/-! ## READ_ENTRY -/

/-- The time remaining to a deadline; 0 when it has been reached or is absent (R135, R182). -/
def State.remaining (s : State) (deadline : Option Time) : Nat := (deadline.map (· - s.now)).getD 0

/-- The CONTRACT entry, 19 bytes (R26, R182). DESIGN CHOICE: the bits that the presence byte does not name are 0
(notes/assumptions/21.md), and so is the over-count byte of an OFFERED contract (notes/assumptions/24.md). -/
def State.contractEntry (s : State) (c : Contract) : List Byte :=
  let shed? : Option Shed := match c.state with | .shedding _ sh => some sh | .offered _ | .held _ => none
  [byteOf c.slot.val, c.tag, byteOf c.state.code,
    flagByte [shed?.isSome, c.offerDeadline?.isSome, c.leaseExpiry?.isSome, c.reportDeadline?.isSome,
      shed?.any (·.forced)]]
    ++ bytes2 c.amount ++ bytes2 ((shed?.map (·.target)).getD 0) ++ bytes2 (s.remaining c.offerDeadline?)
    ++ bytes2 (s.remaining c.shedDeadline?) ++ bytes4 (s.remaining c.leaseExpiry?)
    ++ bytes2 (s.remaining c.reportDeadline?) ++ [byteOf c.overCount]

/-- The QUEUE entry, 13 bytes (R43, R182). -/
def State.queueEntry (s : State) (e : QueueEntry) : List Byte :=
  [byteOf e.slot.val, e.tag, byteOf (s.entryClass e), flagByte [e.waitDeadline.isSome]]
    ++ bytes2 e.want ++ bytes2 e.least ++ bytes4 (s.remaining e.waitDeadline) ++ [byteOf (boolCode e.reliefRequested)]

/-- The SLOT entry, 23 bytes (R111, R182). -/
def State.slotEntry (s : State) (i : Slot) : List Byte :=
  let p := s.port i
  [byteOf p.state.code, byteOf p.joinCount, byteOf p.missCount, flagByte [p.declared.isSome, p.penaltyEnd.isSome],
    byteOf (((p.declared.map (·.cls.toNat)).getD 0))]
    ++ bytes2 ((p.declared.map (·.peak)).getD 0) ++ bytes4 (s.remaining p.penaltyEnd)
    ++ bytes2 p.framingErrors ++ bytes2 p.crcErrors ++ bytes2 p.strayFrames ++ bytes2 p.forwardDrops
    ++ [byteOf p.orders.length, byteOf p.replies.length, byteOf p.downstream.length, byteOf (boolCode p.enable)]

/-- The CONFIG entry, 19 bytes (R182). -/
def LiveItems.bytes (items : LiveItems) : List Byte :=
  bytes2 items.budgetCap ++ bytes2 items.safeBudget ++ bytes2 items.reserve ++ bytes2 items.staleTimeout
    ++ bytes2 items.highMark ++ bytes2 items.lowMark ++ bytes2 items.acceptWindow ++ bytes2 items.probeInterval
    ++ bytes3 items.eventMask.toNat

/-- The PAGE entry, 5 bytes (R134, R182). -/
def Page.bytes (p : Page) : List Byte :=
  byteOf p.code :: bytes4 (match p with | .valid img => img.generation | .blank | .damaged => 0)

/-- The mark byte 0 and an entry, or the empty mark 1 (R182). -/
def entryData : Option (List Byte) → List Byte
  | some bytes => 0 :: bytes
  | none => [1]

/-- The entry of a table at an index within its range (R134). -/
def State.tableEntry (s : State) (table : Table) (index : Nat) : Option (List Byte) :=
  match table with
  | .contract => (s.adm.contracts[index]?).map s.contractEntry
  | .queue => (s.adm.queue[index]?).map s.queueEntry
  | .slot => some (s.slotEntry (Fin.ofNat 8 index))
  | .activePolicy => some (s.pol.active.get (Fin.ofNat 8 index)).bytes
  | .shadowPolicy => some (s.pol.shadow.get (Fin.ofNat 8 index)).bytes
  | .config => some s.pol.items.bytes
  | .page => some (s.store.pages.get (Fin.ofNat 8 index)).bytes

/-- READ_ENTRY's checks and data (R134). -/
def runReadEntry (table index : Byte) (s : State) : State × Settle :=
  match Table.ofCode? table.toNat with
  | none => naked .badTable s
  | some t =>
    if t.size ≤ index.toNat then naked .badIndex s
    else (s, .ack (entryData (s.tableEntry t index.toNat)))

/-- READ_ENTRY (R134). -/
def execReadEntry (seq table index : Byte) (s : State) : Out := .next (takeCommand seq (runReadEntry table index) s)

/-! ## CLEAR_EVENTS -/

/-- CLEAR_EVENTS's check of form and checks; the flags of the kinds named are cleared (R132, R136). -/
def runClearEvents (count : Byte) (kinds : List Byte) (s : State) : State × Settle :=
  if !listFormOk count kinds then naked .malformed s
  else match kindSetOf? kinds with
    | none => naked .badValue s
    | some set => acked { s with ntc.flags := s.ntc.flags &&& ~~~set }

/-- CLEAR_EVENTS (R136). More than 31 kind codes fit in no frame: a framing error. -/
def execClearEvents (seq count : Byte) (kinds : List Byte) (s : State) : Out :=
  .next (if kinds.length ≤ 31 then takeCommand seq (runClearEvents count kinds) s else malformedFrame .supply s)

/-! ## FORCE_SHED, FORCE_CLOSE, FORCE_CUT -/

/-- FORCE_SHED's checks and shed (R72, R73): the target is taken as given. -/
def runForceShed (slot tag : Byte) (target : Nat) (s : State) : State × Settle :=
  match slotOf? slot with
  | none => naked .badSlot s
  | some i =>
    match s.contract? i tag with
    | none => naked .noContract s
    | some c =>
      if !c.isHeld then naked .wrongState s
      else if c.amount ≤ target then naked .badValue s
      else acked (s.issueShed i tag target true)

/-- FORCE_SHED (R72). -/
def execForceShed (seq slot tag : Byte) (target : Half) (s : State) : Out :=
  .next (takeCommand seq (runForceShed slot tag target.toNat) s)

/-- FORCE_CLOSE's checks and closing (R137). -/
def runForceClose (slot tag : Byte) (s : State) : State × Settle :=
  match slotOf? slot with
  | none => naked .badSlot s
  | some i =>
    match s.contract? i tag with
    | none => naked .noContract s
    | some c => acked (afterClose c.isShedding ((s.closeContract i tag).order i (.closed tag .forced)))

/-- FORCE_CLOSE (R137). -/
def execForceClose (seq slot tag : Byte) (s : State) : Out := .next (takeCommand seq (runForceClose slot tag) s)

/-- FORCE_CUT's checks and cut (R139). -/
def runForceCut (slot : Byte) (s : State) : State × Settle :=
  match slotOf? slot with
  | none => naked .badSlot s
  | some i => if (s.port i).state = .present then acked (cutAndFollow i .forced s) else naked .wrongState s

/-- FORCE_CUT (R139). -/
def execForceCut (seq slot : Byte) (s : State) : Out := .next (takeCommand seq (runForceCut slot) s)

/-! ## PORT_RESET -/

/-- Stages 4 to 6 of R109: reception abandoned, the four counts 0, the penalty forgotten. -/
def SlotPort.restart (p : SlotPort) : SlotPort :=
  { p with
    receiver := huntingReceiver, framingErrors := 0, crcErrors := 0, strayFrames := 0, forwardDrops := 0,
    penaltyEnd := none }

/-- PORT_RESET of a slot, in the stages of R109. -/
def State.resetPort (s : State) (i : Slot) : State :=
  let s := ((tearAndFollow i (s.deassert i)).emptyQueues i).onPort i SlotPort.restart
  if (s.policy i).enabled then s.enterVacant i (some s.nextProbe) else s

/-- PORT_RESET's check and reset (R140). -/
def runPortReset (slot : Byte) (s : State) : State × Settle :=
  match slotOf? slot with
  | none => naked .badSlot s
  | some i => acked (s.resetPort i)

/-- PORT_RESET (R109, R140). -/
def execPortReset (seq slot : Byte) (s : State) : Out := .next (takeCommand seq (runPortReset slot) s)

/-! ## RESTART -/

/-- RESTART's check and acceptance (R141): the restart wait is set. -/
def runRestart (s : State) : State × Settle :=
  if s.store.op.isSome then naked .busy s else acked { s with man.restartWait := true }

/-- RESTART (R141). -/
def execRestart (seq : Byte) (s : State) : Out := .next (takeCommand seq runRestart s)

end Sys2Proof.Machine
end

