-- ==== Sys2Proof/Machine/PolicyCommands.lean ====
section
/-!
DEFINITION. The Policy Tables: WRITE_POLICY (R114), DISCARD (R115), COMMIT in its five stages (R117 to R119, R40,
R41) and SET_CONFIG (R123, R125, R51).
-/

namespace Sys2Proof.Machine

/-! ## WRITE_POLICY and DISCARD -/

/-- WRITE_POLICY's checks and write (R114). -/
def runWritePolicy (slot : Byte) (record : List Byte) (s : State) : State × Settle :=
  match slotOf? slot with
  | none => naked .badSlot s
  | some i =>
    match Policy.ofBytes? record with
    | none => naked .badValue s
    | some p => acked { s with pol.shadow := s.pol.shadow.set i p, pol.dirty := true }

/-- WRITE_POLICY (R114). A record that is not 26 bytes long fits in no frame of the kind: a framing error. -/
def execWritePolicy (seq slot : Byte) (record : List Byte) (s : State) : Out :=
  .next (if record.length = 26 then takeCommand seq (runWritePolicy slot record) s else malformedFrame .supply s)

/-- DISCARD (R115). -/
def runDiscard (s : State) : State × Settle := acked { s with pol.shadow := s.pol.active, pol.dirty := false }

/-- DISCARD (R115). -/
def execDiscard (seq : Byte) (s : State) : Out := .next (takeCommand seq runDiscard s)

/-! ## COMMIT -/

/-- CLOSED(POLICY) for every contract of the slot in table order, then REFUSE(POLICY) for every queued claim in
service order, each claim leaving the queue, then the teardown (R118, R41, R24). -/
def State.closeForPolicy (s : State) (i : Slot) : State :=
  let told := (s.contractsOf i).foldl (fun s c => s.order i (.closed c.tag .policy)) s
  let refused := (s.claimsOf i).foldl (fun s e => (s.leaveQueue i e.tag).refuse i e.tag .policy) told
  refused.removeSlot i

/-- A slot becomes DISABLED and holds what R95 requires (R118). -/
def State.disable (s : State) (i : Slot) : State :=
  (s.onPort i fun p =>
    { p with
      state := .disabled, probeDeadline := none, answerDeadline := none, penaltyEnd := none, joinCount := 0,
      missCount := 0, declared := none, receiver := huntingReceiver }).evalEnable i

/-- Stage 2 of a commit for one slot, from its old record (R118). -/
def alignSlot (old : Policy) (i : Slot) (s : State) : State :=
  let new := s.policy i
  if old.enabled = new.enabled ∧ old.requiredClass = new.requiredClass ∧ (s.port i).state ≠ .mismatch then s
  else match old.enabled, new.enabled, (s.port i).state with
    | true, false, .present => (s.closeForPolicy i).disable i
    | true, false, _ => s.disable i
    | false, true, .disabled => s.enterVacant i (some s.nextProbe)
    | true, true, .present =>
      if new.accepts (s.port i).declared then s
      else (s.closeForPolicy i).enterKnown i .mismatch .slotMismatch
    | true, true, .mismatch =>
      if new.accepts (s.port i).declared then s.enterKnown i .present .slotJoined else s
    | _, _, _ => s

/-- Stage 2 of a commit: slot 0 first, slot 7 last (R117). -/
def alignSlots (old : Vector Policy 8) (s : State) : State :=
  allSlots.foldl (fun s i => alignSlot (old.get i) i s) s

/-- The target of a commit's shed: the new ceiling rounded down to the new step, or the new floor where that is
larger (R74). -/
def commitTarget (p : Policy) : Nat := max (roundDown p.step p.ceiling) p.floor

/-- Stage 3 of a commit for one contract (R119). -/
def checkCeiling (c : Contract) (s : State) : State :=
  if (s.port c.slot).state = .present ∧ (s.policy c.slot).ceiling < c.amount then
    match c.state with
    | .offered _ => (s.removeContract c.slot c.tag).order c.slot (.closed c.tag .policy)
    | .held _ => s.issueShed c.slot c.tag (commitTarget (s.policy c.slot)) false
    | .shedding _ _ => s
  else s

/-- Stage 3 of a commit, in contract-table order (R119). -/
def checkCeilings (s : State) : State := s.adm.contracts.foldl (fun s c => checkCeiling c s) s

/-- Stage 4 of a commit for one entry: removed where its least exceeds its slot's new ceiling (R41). -/
def checkEntry (e : QueueEntry) (s : State) : State :=
  if (s.port e.slot).state = .present ∧ (s.policy e.slot).ceiling < e.least then
    (s.leaveQueue e.slot e.tag).refuse e.slot e.tag .policy
  else s

/-- The entries in arrival order (R28). -/
def State.arrivals (s : State) : List QueueEntry :=
  s.adm.arrival.filterMap fun k => s.adm.queue.find? (QueueEntry.isOf k.1 k.2)

/-- The service order rebuilt: the arrival order sorted by the present classes, highest first, entries of equal
class in their arrival order (R40). -/
def State.rebuildQueue (s : State) : State :=
  { s with adm.queue := s.arrivals.foldl (fun sorted e => s.insertEntry e sorted) [] }

/-- Stage 4 of a commit (R40, R41, R117). -/
def checkQueue (s : State) : State :=
  (s.adm.queue.foldl (fun s e => checkEntry e s) s).rebuildQueue

/-- The stages of a commit with the dirty flag set: swap, slots, contracts, queue with the one re-evaluation of
the flags, pass and round (R117). -/
def commitStages (s : State) : State :=
  let swapped : State := { s with pol.active := s.pol.shadow, pol.dirty := false }
  let settled := evalFlags (checkQueue (checkCeilings (alignSlots s.pol.active swapped)))
  recheck (runPass settled)

/-- COMMIT: nothing changes with the dirty flag clear (R117). -/
def runCommit (s : State) : State × Settle := if s.pol.dirty then acked (commitStages s) else acked s

/-- COMMIT (R117). -/
def execCommit (seq : Byte) (s : State) : Out := .next (takeCommand seq runCommit s)

/-! ## SET_CONFIG -/

/-- The marks worked out afresh and the watermark flag re-evaluated (R51, R53, R54). -/
def newMarks (s : State) : State := evalWatermark { s with bud := workOutMarks s.bud s.pol.items }

/-- The effect of an item just replaced (R123). -/
def configEffect (item : ConfigItem) (s : State) : State :=
  match item with
  | .budgetCap | .safeBudget | .reserve => requestOnConfig s.bud.limit (recompute s)
  | .highMark | .lowMark => newMarks s
  | .staleTimeout | .acceptWindow | .probeInterval | .eventMask => s

/-- SET_CONFIG's checks and effect (R123, R132). -/
def runSetConfig (item : Byte) (body : List Byte) (s : State) : State × Settle :=
  match configChange s.pol.items item body with
  | .error reason => naked reason s
  | .ok (it, items) => acked (configEffect it { s with pol.items := items })

/-- SET_CONFIG (R123). A payload of a length outside the item's range is a framing error (R178 check 3). -/
def execSetConfig (seq item : Byte) (body : List Byte) (s : State) : Out :=
  .next (if configBodyFits item body then takeCommand seq (runSetConfig item body) s else malformedFrame .supply s)

end Sys2Proof.Machine
end

