-- ==== Sys2Proof/Machine/Store.lean ====
section
/-!
DEFINITION. The Profile Store: STORE_ERASE, STORE_SAVE and STORE_LOAD (R143, R159, R160, R162) and their
completions (R159, R161, R162).
-/

namespace Sys2Proof.Machine

/-- The Management Unit's checks of a store command, in order (R143), and then the store's own. -/
def storeCommand (page : Byte) (own : Slot → State → State × Settle) (s : State) : State × Settle :=
  match slotOf? page with
  | none => naked .badIndex s
  | some p => if s.store.op.isSome then naked .busy s else own p s

/-- A store operation started: the store-busy flag is set by its presence (R156). -/
def State.start (s : State) (op : StoreOp) : State := { s with store.op := some op }

/-- The state of a page. -/
def State.page (s : State) (p : Slot) : Page := s.store.pages.get p

/-- STORE_ERASE's own check and acceptance (R159). -/
def ownErase (p : Slot) (s : State) : State × Settle :=
  if p = 0 then naked .isProtected s else acked (s.start (.erase p))

/-- STORE_ERASE (R159). -/
def execStoreErase (seq page : Byte) (s : State) : Out := .next (takeCommand seq (storeCommand page ownErase) s)

/-- The generation of a page, when VALID (R157). -/
def Page.generation? : Page → Option Nat
  | .valid img => some img.generation
  | .blank | .damaged => none

/-- The greatest generation among the VALID pages (R160). -/
def greatestGeneration (pages : Vector Page 8) : Option Nat := (pages.toList.filterMap Page.generation?).max?

/-- The generation a save is stamped with: one more than the greatest, or 1 where no page is VALID (R160). -/
def nextGeneration (pages : Vector Page 8) : Nat := (greatestGeneration pages).elim 1 (· + 1)

/-- The image captured at a save's acceptance: the active records, the live items and the next generation, with the
integrity check computed over them (R160). -/
def State.capture (s : State) : Image := .stamped s.pol.active s.pol.items (nextGeneration s.store.pages)

/-- STORE_SAVE's own checks and acceptance (R160). -/
def ownSave (p : Slot) (s : State) : State × Settle :=
  if p = 0 then naked .isProtected s
  else if s.page p ≠ .blank then naked .notBlank s
  else if greatestGeneration s.store.pages = some Config.maxGeneration then naked .exhausted s
  else acked (s.start (.save p s.capture))

/-- STORE_SAVE (R160). -/
def execStoreSave (seq page : Byte) (s : State) : Out := .next (takeCommand seq (storeCommand page ownSave) s)

/-- An image is intact when its check agrees with its contents (R156). -/
def Image.intact (img : Image) : Bool := img.check == Config.imageCheck img.policies img.items img.generation

/-- STORE_LOAD's own check and acceptance (R162). -/
def ownLoad (p : Slot) (s : State) : State × Settle :=
  match s.page p with
  | .valid _ => acked (s.start (.load p))
  | .blank | .damaged => naked .notValid s

/-- STORE_LOAD (R162). -/
def execStoreLoad (seq page : Byte) (s : State) : Out := .next (takeCommand seq (storeCommand page ownLoad) s)

/-! ## Completions -/

/-- The end of an operation on a page: the operation absent, the page in its new state, then the event (R159,
R161). -/
def State.complete (s : State) (p : Slot) (page : Page) (event : EventKind) : State :=
  ({ s with store.op := none, store.pages := s.store.pages.set p page } : State).raise event none p.val

/-- The completion of an erase (R159). -/
def completeErase (s : State) : State :=
  match s.store.op with
  | some (.erase p) => s.complete p .blank .storeDone
  | some (.save _ _) | some (.load _) | none => s

/-- STORE_ERASE_COMPLETION (R159). -/
def execStoreEraseCompletion (s : State) : Out := .next (completeErase s)

/-- The completion of a save (R161): the page is verified intact when it reads back as the captured image and the
image's check agrees with its contents. -/
def completeSave (asWritten : Bool) (s : State) : State :=
  match s.store.op with
  | some (.save p img) =>
    if asWritten && img.intact then s.complete p (.valid img) .storeDone else s.complete p .damaged .storeFailed
  | some (.erase _) | some (.load _) | none => s

/-- STORE_SAVE_COMPLETION (R161). -/
def execStoreSaveCompletion (asWritten : Bool) (s : State) : Out := .next (completeSave asWritten s)

/-- Steps 1 and 2 of a load's completion: the shadow and the live items replaced, dirty set, figures and flags
worked out once, a pass if the limit rose, one NORMAL round (R162, R116, R51). -/
def placeLoaded (img : Image) (s : State) : State :=
  requestOnConfig s.bud.limit
    (recompute { s with pol.shadow := img.policies, pol.dirty := true, pol.items := img.items })

/-- The completion of a load (R162). -/
def completeLoad (s : State) : State :=
  match s.store.op with
  | some (.load p) =>
    let placed := match s.page p with
      | .valid img => placeLoaded img s
      | .blank | .damaged => s
    ({ placed with store.op := none } : State).raise .storeDone none p.val
  | some (.erase _) | some (.save _ _) | none => s

/-- STORE_LOAD_COMPLETION (R162). -/
def execStoreLoadCompletion (s : State) : Out := .next (completeLoad s)

end Sys2Proof.Machine
end

