-- ==== Sys2Proof/Machine/Reception.lean ====
section
/-!
DEFINITION. FRAME_RECEIVE_ERROR: bytes that arrive on a link run through its receiver one by one (R176). A frame among
them that fails a check is counted (R179), and one that passes every check is handed to the block that takes it (R178).
-/

namespace Sys2Proof.Machine

/-- What an accepted frame does, by the command it carries (R178): a module's frame at its Slot Port, and a frame of the
supply link at the block that owns its matter. A command that no frame carries is never accepted. -/
def takeFrame (c : Instr) (s : State) : State :=
  match c with
  | .claim i t want least => moduleFrame i (takeClaim i t want.toNat least.toNat) s
  | .accept i t => moduleFrame i (takeAccept i t) s
  | .decline i t => moduleFrame i (takeDecline i t) s
  | .release i t => moduleFrame i (takeRelease i t) s
  | .adjust i t amount => moduleFrame i (takeAdjust i t amount.toNat) s
  | .renew i t => moduleFrame i (takeRenew i t) s
  | .report i t measured => moduleFrame i (takeReport i t measured.toNat) s
  | .comply i t => moduleFrame i (takeComply i t) s
  | .present i cls peak => takePresent i ⟨cls, peak.toNat⟩ s
  | .data i seq payload => moduleFrame i (takeData i seq payload) s
  | .budget seq amount urgency => supplyFrame (takeBudget seq amount.toNat urgency) s
  | .noticeAck seq => supplyFrame (takeNoticeAck seq) s
  | .dataDown seq slot payload => supplyFrame (takeDataDown seq slot payload) s
  | .queryStatus seq => takeCommand seq runQueryStatus s
  | .readEntry seq table index => takeCommand seq (runReadEntry table index) s
  | .writePolicy seq slot record => takeCommand seq (runWritePolicy slot record) s
  | .discard seq => takeCommand seq runDiscard s
  | .commit seq => takeCommand seq runCommit s
  | .setConfig seq item body => takeCommand seq (runSetConfig item body) s
  | .clearEvents seq count kinds => takeCommand seq (runClearEvents count kinds) s
  | .forceShed seq slot tag target => takeCommand seq (runForceShed slot tag target.toNat) s
  | .forceClose seq slot tag => takeCommand seq (runForceClose slot tag) s
  | .forceCut seq slot => takeCommand seq (runForceCut slot) s
  | .portReset seq slot => takeCommand seq (runPortReset slot) s
  | .storeErase seq page => takeCommand seq (storeCommand page ownErase) s
  | .storeSave seq page => takeCommand seq (storeCommand page ownSave) s
  | .storeLoad seq page => takeCommand seq (storeCommand page ownLoad) s
  | .restart seq => takeCommand seq runRestart s
  | .frameReceiveError .. | .byteGapTimeout .. | .offerDeadline .. | .leaseExpiry .. | .waitDeadline ..
  | .staleDeadline | .shedDeadline .. | .reportDeadline .. | .penaltyEndTime .. | .probeDeadline ..
  | .answerDeadline .. | .retransmitDeadline | .storeEraseCompletion | .storeSaveCompletion ..
  | .storeLoadCompletion | .slotTransmissionBegin .. | .slotTransmissionSent .. | .upstreamTransmissionBegin
  | .upstreamTransmissionSent | .restartTakesEffect .. | .hardReset .. | .startUpScanEnd => s

/-- What the checks of a complete frame lead to: a failing frame is counted and raised (R179), an ignored one has no
effect, and an accepted one is taken (R178). -/
def takeVerdict (link : Link) (v : Verdict) (s : State) : State :=
  match v with
  | .accepted c => takeFrame c s
  | .ignored => s
  | .failed e => s.linkError link e

/-- A byte that arrives on a link (R176): discarded where the receive checks are not made, otherwise taken by the
receiver. While a frame is in progress, the gap timer runs from its last byte. -/
def receiveOn (link : Link) (s : State) (b : Byte) : State :=
  if s.receives link then
    let r := receiveByte s.straps link (s.receiver link).bytes b
    let heard := s.setReceiver link ⟨r.1, if r.1.isEmpty then none else some (s.now + Config.byteGap)⟩
    match r.2 with
    | none => heard
    | some v => takeVerdict link v heard
  else s

/-- FRAME_RECEIVE_ERROR (R176 to R179): the bytes arrive one after the other, without a gap. DESIGN CHOICE: the row
carries bytes (notes/assumptions/7.md). -/
def execFrameReceiveError (link : Link) (bytes : List Byte) (s : State) : Out := .next (bytes.foldl (receiveOn link) s)

end Sys2Proof.Machine
end

