-- ==== Sys2Proof/Machine/Transmit.lean ====
section
/-!
DEFINITION. The transmitters: a slot link's precedence (R108), the upstream arbiter (R173) and the "sent"
completions (R108, R152, R153).
-/

namespace Sys2Proof.Machine

/-- The frame that stands first in the first non-empty queue of a port, with the port it leaves behind: order
list, reply queue, downstream data queue (R108). -/
def SlotPort.nextFrame (p : SlotPort) : Option (SlotFrame × SlotPort) :=
  match p.orders, p.replies, p.downstream with
  | o :: rest, _, _ => some (.order o, { p with orders := rest })
  | [], r :: rest, _ => some (.reply r, { p with replies := rest })
  | [], [], d :: rest => some (.data d, { p with downstream := rest })
  | [], [], [] => none

/-- An idle slot transmitter begins the next frame; it leaves its queue (R108). In a restart wait none begins
(R141). -/
def beginSlot (i : Slot) (s : State) : State :=
  if s.active ∧ (s.port i).transmission = none then
    match (s.port i).nextFrame with
    | none => s
    | some (f, p) => s.setPort i { p with transmission := some ⟨f, f.bytes⟩ }
  else s

/-- SLOT_TRANSMISSION_BEGIN (R108). -/
def execSlotTransmissionBegin (i : Slot) (s : State) : Out := .next (beginSlot i s)

/-- SLOT_TRANSMISSION_SENT (R108): the transmitter is idle again. -/
def execSlotTransmissionSent (i : Slot) (s : State) : Out :=
  .next (s.onPort i fun p => { p with transmission := none })

/-- The upstream transmitter begins a frame. -/
def State.transmit (s : State) (f : UpFrame) : State :=
  { s with supply.transmission := some ⟨f, f.bytes s.straps⟩ }

/-- The arbiter's choice (R173): the first ANSWER, else the SENT notice while it is offered, else the first
DATA_UP. In a restart wait it chooses only from the answer queue (R141). -/
def beginUpstream (s : State) : State :=
  if s.part = .running ∧ s.supply.transmission = none then
    match s.man.answers with
    | a :: rest => { s.transmit (.answer a) with man.answers := rest }
    | [] =>
      if s.man.restartWait then s
      else match s.ntc.queue.find? Notice.isOffered with
        | some n =>
          { s.transmit (.notice n.beginSend) with
            ntc.queue := modifyFirst Notice.isOffered Notice.beginSend s.ntc.queue }
        | none =>
          match s.forward with
          | d :: rest => { s.transmit (.dataUp d) with forward := rest }
          | [] => s
  else s

/-- UPSTREAM_TRANSMISSION_BEGIN (R173). -/
def execUpstreamTransmissionBegin (s : State) : Out := .next (beginUpstream s)

/-- The upstream "sent" completion: the transmitter is idle, and the notice whose transmission completes gets its
retransmit deadline (R152, R153). A record acknowledged during its transmission has left the queue, and the
record that is SENT then is offered, not in transmission (R154). -/
def endUpstream (s : State) : State :=
  match s.supply.transmission with
  | none => s
  | some x =>
    let idle : State := { s with supply.transmission := none }
    match x.frame with
    | .notice _ =>
      { idle with ntc.queue := s.ntc.queue.map (Notice.endSend (s.now + Config.retransmitDelay)) }
    | .answer _ | .dataUp _ => idle

/-- UPSTREAM_TRANSMISSION_SENT (R152). -/
def execUpstreamTransmissionSent (s : State) : Out := .next (endUpstream s)

end Sys2Proof.Machine
end

