-- ==== Sys2Proof/Machine/Startup.lean ====
section
/-!
DEFINITION. Hard reset (R163, R165 and every chapter's "State after reset"), the restart's effect (R141), and the
end of the start-up scan (R166).
-/

namespace Sys2Proof.Machine

/-- The pages a hard reset leaves: the page of an erase or a save in progress is DAMAGED (R163). -/
def interruptStore (store : ProfileStore) : Vector Page 8 :=
  match store.op with
  | some (.erase p) | some (.save p _) => store.pages.set p .damaged
  | some (.load _) | none => store.pages

/-- A page read by the start-up scan: a VALID page whose image is not intact becomes DAMAGED (R165). A page that does
not read back as written has an image whose check does not agree. -/
def Page.scan (asWritten : Bool) (p : Page) : Page :=
  match p with
  | .valid img => if asWritten && img.intact then .valid img else .damaged
  | .blank | .damaged => p

/-- The start-up scan's reading of every page (R165); bit p of `asWritten` says that page p reads back as it was
written. DESIGN CHOICE: the bits come with the reset (notes/assumptions/5.md). -/
def scanPages (asWritten : BitVec 8) (pages : Vector Page 8) : Vector Page 8 :=
  pages.mapIdx fun p page => page.scan (asWritten.getLsbD p)

/-- Everything a hard reset does: every block at its reset values, the straps read afresh, the store operation
interrupted, STARTING with the scan of the pages (R163, R165, R181). The pages, the no-image flag and the loaded
image page are kept as R157, R163 and R167 state; the waiting commands and the time base are no part of a
block. -/
def State.restarted (s : State) (straps : BitVec 2) (asWritten : BitVec 8) : State :=
  { State.reset with
    now := s.now
    pending := s.pending
    straps := straps
    store := { s.store with pages := scanPages asWritten (interruptStore s.store), op := none } }

/-- HARD_RESET (R165). -/
def execHardReset (straps : BitVec 2) (asWritten : BitVec 8) (s : State) : Out := .next (s.restarted straps asWritten)

/-- Whether a restart takes effect: the wait is set, the RESTART ACK, the last ANSWER of the queue, has been
sent, and no transmission is in progress on any link (R141). -/
def State.restartDue (s : State) : Bool :=
  s.man.restartWait && s.man.answers.isEmpty && s.supply.transmission.isNone
    && allSlots.all fun i => (s.port i).transmission.isNone

/-- RESTART_TAKES_EFFECT (R141): the part does everything a hard reset does. -/
def execRestartTakesEffect (straps : BitVec 2) (asWritten : BitVec 8) (s : State) : Out :=
  .next (if s.restartDue then s.restarted straps asWritten else s)

/-- The page the scan chooses: the VALID page with the greatest generation (R165). -/
def choosePage (pages : Vector Page 8) : Option (Slot × Image) :=
  (greatestGeneration pages).bind fun g =>
    allSlots.findSome? fun p =>
      match pages.get p with
      | .valid img => if img.generation = g then some (p, img) else none
      | .blank | .damaged => none

/-- The choice placed: records in both copies, dirty clear, items live, no-image flag and loaded image page
(R166 stages 1 and 2). -/
def placeImage (choice : Option (Slot × Image)) (s : State) : State :=
  match choice with
  | some (p, img) =>
    { s with
      pol := ⟨img.policies, img.policies, false, img.items⟩
      store.noImage := false
      store.loadedPage := some p }
  | none =>
    { s with
      pol := ⟨Vector.replicate 8 defaultPolicy, Vector.replicate 8 defaultPolicy, false, defaultItems⟩
      store.noImage := true
      store.loadedPage := none }

/-- The Budget Monitor's figures worked out for the first time (R56): no event is raised and nothing asked for;
the overcommit flag stays clear, and the watermark flag has the value of R54. -/
def firstFigures (s : State) : State :=
  let b := workOut { s.bud with stale := true } s.pol.items
  { s with bud := { b with overcommit := false, watermark := watermarkValue b s.adm.committed } }

/-- Each enabled slot becomes VACANT with its first PROBE one interval later (R166 stage 4). -/
def openSlots (s : State) : State :=
  allSlots.foldl (fun s i => if (s.policy i).enabled then s.enterVacant i (some s.nextProbe) else s) s

/-- The end of the start-up scan (R166), taken while STARTING. -/
def endScan (s : State) : State :=
  if s.part = .starting then
    let choice := choosePage s.store.pages
    let s := firstFigures (placeImage choice s)
    let s := openSlots { s with part := .running }
    s.raise .restarted none ((choice.map (·.1.val)).getD 0xFFFF)
  else s

/-- START_UP_SCAN_END (R166). -/
def execStartUpScanEnd (s : State) : Out := .next (endScan s)

end Sys2Proof.Machine
end

