-- ==== Sys2Proof/Machine/Dispatch.lean ====
section
/-!
DEFINITION. The dispatch: one arm per command, each one call of the command's own meaning.
-/

namespace Sys2Proof.Machine

/-- The effect of a command on everything but the queue of waiting commands. -/
def exec (i : Instr) (s : State) : Host.Outcome State Fault Refusal :=
  match i with
  | .claim slot tag want least => Sys2Proof.Machine.execClaim slot tag want least s
  | .accept slot tag => Sys2Proof.Machine.execAccept slot tag s
  | .decline slot tag => Sys2Proof.Machine.execDecline slot tag s
  | .release slot tag => Sys2Proof.Machine.execRelease slot tag s
  | .adjust slot tag amount => Sys2Proof.Machine.execAdjust slot tag amount s
  | .renew slot tag => Sys2Proof.Machine.execRenew slot tag s
  | .report slot tag measured => Sys2Proof.Machine.execReport slot tag measured s
  | .comply slot tag => Sys2Proof.Machine.execComply slot tag s
  | .present slot cls peak => Sys2Proof.Machine.execPresent slot cls peak s
  | .data slot seq payload => Sys2Proof.Machine.execData slot seq payload s
  | .frameReceiveError link bytes => Sys2Proof.Machine.execFrameReceiveError link bytes s
  | .byteGapTimeout link => Sys2Proof.Machine.execByteGapTimeout link s
  | .budget seq amount urgency => Sys2Proof.Machine.execBudget seq amount urgency s
  | .noticeAck seq => Sys2Proof.Machine.execNoticeAck seq s
  | .dataDown seq slot payload => Sys2Proof.Machine.execDataDown seq slot payload s
  | .queryStatus seq => Sys2Proof.Machine.execQueryStatus seq s
  | .readEntry seq table index => Sys2Proof.Machine.execReadEntry seq table index s
  | .writePolicy seq slot record => Sys2Proof.Machine.execWritePolicy seq slot record s
  | .discard seq => Sys2Proof.Machine.execDiscard seq s
  | .commit seq => Sys2Proof.Machine.execCommit seq s
  | .setConfig seq item body => Sys2Proof.Machine.execSetConfig seq item body s
  | .clearEvents seq count kinds => Sys2Proof.Machine.execClearEvents seq count kinds s
  | .forceShed seq slot tag target => Sys2Proof.Machine.execForceShed seq slot tag target s
  | .forceClose seq slot tag => Sys2Proof.Machine.execForceClose seq slot tag s
  | .forceCut seq slot => Sys2Proof.Machine.execForceCut seq slot s
  | .portReset seq slot => Sys2Proof.Machine.execPortReset seq slot s
  | .storeErase seq page => Sys2Proof.Machine.execStoreErase seq page s
  | .storeSave seq page => Sys2Proof.Machine.execStoreSave seq page s
  | .storeLoad seq page => Sys2Proof.Machine.execStoreLoad seq page s
  | .restart seq => Sys2Proof.Machine.execRestart seq s
  | .offerDeadline slot tag => Sys2Proof.Machine.execOfferDeadline slot tag s
  | .leaseExpiry slot tag => Sys2Proof.Machine.execLeaseExpiry slot tag s
  | .waitDeadline slot tag => Sys2Proof.Machine.execWaitDeadline slot tag s
  | .staleDeadline => Sys2Proof.Machine.execStaleDeadline s
  | .shedDeadline slot tag => Sys2Proof.Machine.execShedDeadline slot tag s
  | .reportDeadline slot tag => Sys2Proof.Machine.execReportDeadline slot tag s
  | .penaltyEndTime slot => Sys2Proof.Machine.execPenaltyEndTime slot s
  | .probeDeadline slot => Sys2Proof.Machine.execProbeDeadline slot s
  | .answerDeadline slot => Sys2Proof.Machine.execAnswerDeadline slot s
  | .retransmitDeadline => Sys2Proof.Machine.execRetransmitDeadline s
  | .storeEraseCompletion => Sys2Proof.Machine.execStoreEraseCompletion s
  | .storeSaveCompletion asWritten => Sys2Proof.Machine.execStoreSaveCompletion asWritten s
  | .storeLoadCompletion => Sys2Proof.Machine.execStoreLoadCompletion s
  | .slotTransmissionBegin slot => Sys2Proof.Machine.execSlotTransmissionBegin slot s
  | .slotTransmissionSent slot => Sys2Proof.Machine.execSlotTransmissionSent slot s
  | .upstreamTransmissionBegin => Sys2Proof.Machine.execUpstreamTransmissionBegin s
  | .upstreamTransmissionSent => Sys2Proof.Machine.execUpstreamTransmissionSent s
  | .restartTakesEffect straps asWritten => Sys2Proof.Machine.execRestartTakesEffect straps asWritten s
  | .hardReset straps asWritten => Sys2Proof.Machine.execHardReset straps asWritten s
  | .startUpScanEnd => Sys2Proof.Machine.execStartUpScanEnd s

end Sys2Proof.Machine
end

