-- ==== Sys2Proof/Machine/Step.lean ====
section
/-!
DEFINITION. One step: the command at the front of the queue is taken and executed; with no command waiting, the
time base advances by one millisecond.
-/

namespace Sys2Proof.Machine

/-- DESIGN CHOICE: with no command waiting, one millisecond of the time base passes and nothing else happens;
every expiry is a command of the table (notes/assumptions/2.md). -/
def tick (s : State) : State := { s with now := s.now + 1 }

/-- One step of the machine. -/
def step (s : State) : Host.Outcome State Fault Refusal :=
  match s.pending with
  | [] => .next (tick s)
  | c :: rest => exec c { s with pending := rest }

/-- The command that a table word spells put at the front of the queue; no word spells one, so the state is
unchanged. -/
def State.withFetchWord (s : State) (nbits w : Nat) : State :=
  match decodeTableWord nbits w with
  | some c => { s with pending := c :: s.pending }
  | none => s

end Sys2Proof.Machine
end

