-- ==== Sys2Proof/Safety.lean ====
section
/-!
DEFINITION. What counts as a sound state of the TGM-8: the laws the spec states of its tables, queues, figures and
slots (R1, R3, R4, R28, R44 to R54, R65, R94, R95, R102 to R107, R113, R122, R128, R149, R150, R158, R165, R168). Each
is a property of one state; that every step keeps them is stated in the obligations.
-/

namespace Sys2Proof.Machine

/-! ## The part while STARTING -/

/-- R165: while the part is STARTING, every block holds the values its chapter gives for a hard reset (R26, R43, R55,
R78, R93, R111, R144, R155, R167, R175, R183). -/
def State.StartsClean (s : State) : Prop :=
  s.part = .starting →
    (∀ i, s.port i = Sys2Proof.Machine.resetPort) ∧ s.supply = resetSupply ∧ s.adm = resetAdmission ∧ s.bud = resetBudget
      ∧ s.eng = resetShedEngine ∧ s.man = resetManagement ∧ s.ntc = resetNotices ∧ s.store.op = none
      ∧ s.forward = []

/-! ## Policy, configuration and images -/

/-- An image holds only valid records and items, and a generation of 32 bits (R116, R122, R156). -/
def Image.sound (img : Image) : Bool :=
  img.policies.toList.all Policy.valid && img.items.valid && decide (img.generation ≤ Config.maxGeneration)

/-- A VALID page holds a sound image. -/
def Page.sound : Page → Bool
  | .valid img => img.sound
  | .blank | .damaged => true

/-- The image a save is writing is sound. -/
def StoreOp.sound : StoreOp → Bool
  | .save _ img => img.sound
  | .erase _ | .load _ => true

/-- R113, R122: both copies hold only valid records, every item is within its range with HIGH_MARK above LOW_MARK,
and so does every image of the store. -/
def State.TablesValid (s : State) : Prop :=
  (∀ i, (s.pol.active.get i).valid = true) ∧ (∀ i, (s.pol.shadow.get i).valid = true)
    ∧ s.pol.items.valid = true ∧ (∀ p, (s.page p).sound = true) ∧ (∀ op ∈ s.store.op, op.sound = true)

/-! ## The accounts -/

/-- R65: a SHEDDING contract's target is below its amount. -/
def Contract.targetBelow (c : Contract) : Bool :=
  match c.state with
  | .shedding _ sh => decide (sh.target < c.amount)
  | .offered _ | .held _ => true

/-- R4, R65: committed power is the sum of all reservations, pledged relief is the sum of all reliefs, and every
target is below its amount. -/
def State.Accounts (s : State) : Prop :=
  s.adm.committed = totalAmount s.adm.contracts ∧ s.eng.pledged = totalRelief s.adm.contracts
    ∧ ∀ c ∈ s.adm.contracts, c.targetBelow = true

/-! ## The contract table and the queue -/

/-- The pair that names a contract or a claim (R3). -/
def Contract.key (c : Contract) : Slot × Byte := (c.slot, c.tag)

/-- The pair that names a queued claim (R3, R27). -/
def QueueEntry.key (e : QueueEntry) : Slot × Byte := (e.slot, e.tag)

/-- Whether one entry goes before another in the service order: higher present class, or equal class and earlier
arrival (R28). -/
def State.servedBefore (s : State) (a b : QueueEntry) : Bool :=
  decide (s.entryClass b < s.entryClass a)
    || (s.entryClass b == s.entryClass a
      && decide (s.adm.arrival.idxOf a.key < s.adm.arrival.idxOf b.key))

/-- R3, R28: no pair appears twice in the table and the queue together, the arrival order holds exactly the pairs of
the queue, and the service order is the arrival order sorted by class. -/
def State.QueueOrdered (s : State) : Prop :=
  (s.adm.contracts.map Contract.key ++ s.adm.queue.map QueueEntry.key).Nodup
    ∧ s.adm.arrival.Perm (s.adm.queue.map QueueEntry.key)
    ∧ s.adm.queue.Pairwise fun a b => s.servedBefore a b = true

/-- R102, R103: every contract and queued claim belongs to a PRESENT slot, and each enable output is asserted exactly
when its slot is PRESENT and holds a HELD or SHEDDING contract. -/
def State.PresenceHolds (s : State) : Prop :=
  (∀ c ∈ s.adm.contracts, (s.port c.slot).state = .present)
    ∧ (∀ e ∈ s.adm.queue, (s.port e.slot).state = .present)
    ∧ ∀ i, (s.port i).enable = s.enableValue i

/-! ## Capacities -/

/-- R104, R106, R107: the places of a port's three queues, and at most one unsent order for each matter. -/
def SlotPort.withinPlaces (p : SlotPort) : Bool :=
  decide ((p.orders.map Order.matter).Nodup)
    && decide ((p.orders.filter Order.takesTagPlace).length ≤ Config.tagPlaces)
    && decide (p.replies.length ≤ Config.replyPlaces) && decide (p.downstream.length ≤ Config.downstreamPlaces)

/-- R1, R27, R7, R128, R168: the places of the contract table, the pending claim queue, the answer queue and the
upstream forward queue, and the four contracts and claims of a slot. -/
def State.WithinPlaces (s : State) : Prop :=
  s.adm.contracts.length ≤ Config.contractPlaces ∧ s.adm.queue.length ≤ Config.queuePlaces
    ∧ s.man.answers.length ≤ Config.answerPlaces ∧ s.forward.length ≤ Config.forwardPlaces
    ∧ ∀ i, (s.port i).withinPlaces = true ∧ s.heldBy i ≤ 4

/-! ## The notice queue -/

/-- R149, R152: what a record may hold in its state: sends 0 to 4, below 4 while it is offered and at least 1 once a
transmission of it has begun; a count of 1 to 255; and only NOTICE_LOST in the reserved place. -/
def Notice.sound (n : Notice) : Bool :=
  decide (1 ≤ n.count) && decide (n.count ≤ Config.maxMerged) && (!n.reserved || n.kind == .noticeLost)
    && match n.state with
      | .waiting => true
      | .sent sends .offered => decide (sends < Config.maxSends)
      | .sent sends .transmitting | .sent sends (.awaiting _) => decide (1 ≤ sends ∧ sends ≤ Config.maxSends)

/-- The seqs of a queue of this length, oldest first, when the counter stands at `next`: they follow one another and
end just below the counter (R149). -/
def seqsBelow (next : Byte) : Nat → List Byte
  | 0 => []
  | n + 1 => (next - BitVec.ofNat 8 (n + 1)) :: seqsBelow next n

/-- R149, R150, R152: the oldest record is SENT and every other one WAITING, no two WAITING records have one key, at
most 31 records stand in general places and one in the reserved place, and the seqs follow one another up to the
counter. -/
def State.NoticesOrdered (s : State) : Prop :=
  (∀ n ∈ s.ntc.queue.head?, n.isSent = true) ∧ (∀ n ∈ s.ntc.queue.tail, n.isWaiting = true)
    ∧ (s.ntc.queue.tail.map fun n => (n.kind, n.origin)).Nodup
    ∧ generalCount s.ntc.queue ≤ Config.generalPlaces
    ∧ (s.ntc.queue.filter (·.reserved)).length ≤ 1
    ∧ (∀ n ∈ s.ntc.queue, n.sound = true)
    ∧ s.ntc.queue.map (·.seq) = seqsBelow s.ntc.nextSeq s.ntc.queue.length

/-! ## The profile store -/

/-- The page that an erase or a save in progress acts on. -/
def StoreOp.target? : StoreOp → Option Slot
  | .erase p | .save p _ => some p
  | .load _ => none

/-- A save in progress: its page is BLANK, its image is intact, and its generation is above that of every VALID page
(R160, R161). -/
def State.saveSound (s : State) : StoreOp → Bool
  | .save p img =>
    s.page p == .blank && img.intact
      && s.store.pages.toList.all fun q => q.generation?.all fun g => decide (g < img.generation)
  | .erase _ | .load _ => true

/-- A VALID page holds an image whose check agrees with its contents (R156). -/
def Page.intact : Page → Bool
  | .valid img => img.intact
  | .blank | .damaged => true

/-- R158: page 0 is never BLANK nor the page of an erase or save in progress, no two VALID pages have one generation,
and a save in progress keeps it so. That every VALID page's image is intact is the model's choice: a page keeps what was
written, and the storage's changes come as operands (notes/assumptions/5.md, notes/assumptions/22.md). -/
def State.StoreHolds (s : State) : Prop :=
  s.page 0 ≠ .blank ∧ (∀ op ∈ s.store.op, op.target? ≠ some 0 ∧ s.saveSound op = true)
    ∧ (∀ p q, p ≠ q → (s.page p).generation? ≠ none → (s.page p).generation? ≠ (s.page q).generation?)
    ∧ ∀ p, (s.page p).intact = true

/-! ## The budget -/

/-- R44, R49, R52, R53, R54: while RUNNING, the effective budget, the limit and the marks are as worked out from
their inputs; the overcommit flag is set exactly when committed power exceeds the limit; the watermark flag is one
that its tests leave as it is; and no figure exceeds 65535. -/
def State.BudgetAgrees (s : State) : Prop :=
  (s.part = .running →
      s.bud.effective = min s.pol.items.budgetCap (baseFigure s.bud s.pol.items)
      ∧ s.bud.limit = s.bud.effective - s.pol.items.reserve
      ∧ s.bud.highMark = s.bud.limit * s.pol.items.highMark / 100
      ∧ s.bud.lowMark = s.bud.limit * s.pol.items.lowMark / 100)
    ∧ s.bud.overcommit = decide (s.bud.limit < s.adm.committed)
    ∧ s.bud.watermark = watermarkValue s.bud s.adm.committed
    ∧ s.bud.limit ≤ Config.maxCount ∧ s.adm.committed ≤ Config.maxCount

/-! ## The slots -/

/-- R94 to R101: what a port holds in each state of its slot, and its counts. -/
def SlotPort.shaped (p : SlotPort) : Bool :=
  decide (p.framingErrors ≤ Config.maxCount) && decide (p.crcErrors ≤ Config.maxCount)
    && decide (p.strayFrames ≤ Config.maxCount) && decide (p.forwardDrops ≤ Config.maxCount)
    && match p.state with
      | .disabled =>
        p.joinCount == 0 && p.missCount == 0 && p.probeDeadline.isNone && p.answerDeadline.isNone
          && p.penaltyEnd.isNone && p.declared.isNone
      | .vacant =>
        p.joinCount == 0 && p.missCount == 0 && p.probeDeadline.isSome && p.penaltyEnd.isNone && p.declared.isNone
      | .joining =>
        p.joinCount == 1 && p.missCount == 0 && p.probeDeadline.isSome && p.penaltyEnd.isNone && p.declared.isSome
      | .present | .mismatch =>
        p.joinCount == 2 && decide (p.missCount < Config.lostMisses) && p.probeDeadline.isSome
          && p.penaltyEnd.isNone && p.declared.isSome
      | .penalty =>
        p.joinCount == 2 && decide (p.missCount < Config.lostMisses) && p.probeDeadline.isSome
          && p.penaltyEnd.isSome && p.declared.isSome

/-- R94, R95: every port is shaped as its slot's state asks, and while the part is RUNNING a slot is DISABLED exactly
when its active record has enabled no. -/
def State.SlotsShaped (s : State) : Prop :=
  (∀ i, (s.port i).shaped = true)
    ∧ (s.part = .running → ∀ i, (s.port i).state = .disabled ↔ (s.policy i).enabled = false)

/-! ## Terms of the statements -/

/-- A port after an answer: placed at the end of the reply queue, or dropped and counted at a full one (R106). -/
def SlotPort.withAnswer (p : SlotPort) (r : Reply) : SlotPort :=
  if p.replies.length < Config.replyPlaces then { p with replies := p.replies ++ [r] }
  else { p with forwardDrops := countUp p.forwardDrops }

/-- Whether a valid frame of the module in the slot is handed on: the part takes frames, and the slot is JOINING,
PRESENT, PENALTY or MISMATCH (R6, R169). -/
def State.hands (s : State) (i : Slot) : Prop :=
  s.active = true ∧ (s.port i).state ≠ .disabled ∧ (s.port i).state ≠ .vacant

/-- The slot's port after a valid frame of its module that is handed on: the receiver hunts, and in PRESENT, PENALTY
and MISMATCH the frame is proof of life (R99, R176). -/
def State.heard (s : State) (i : Slot) : SlotPort :=
  if (s.port i).state = .joining then { s.port i with receiver := huntingReceiver }
  else
    { s.port i with
      receiver := huntingReceiver, missCount := 0, answerDeadline := none,
      probeDeadline := some (s.now + s.pol.items.probeInterval) }

/-- The state after a valid frame of the slot's module that changes nothing more. -/
def State.onHearing (s : State) (i : Slot) : State := s.setPort i (s.heard i)

/-- The state after a valid frame of the slot's module that is answered and changes nothing more. -/
def State.answered (s : State) (i : Slot) (r : Reply) : State := s.setPort i ((s.heard i).withAnswer r)

/-- The slot whose module sends this power frame (00_scope "Terms"). -/
def powerSlot? : Instr → Option Slot
  | .claim i .. | .accept i _ | .decline i _ | .release i _ | .adjust i .. | .renew i _ | .report i .. | .comply i _ =>
    some i
  | _ => none

/-- The command sequence of a management command (R129). -/
def commandSeq? : Instr → Option Byte
  | .queryStatus q | .readEntry q .. | .writePolicy q .. | .discard q | .commit q | .setConfig q .. | .clearEvents q ..
  | .forceShed q .. | .forceClose q .. | .forceCut q _ | .portReset q _ | .storeErase q _ | .storeSave q _
  | .storeLoad q _ | .restart q => some q
  | _ => none

/-- Whether a command of this sequence is executed: the part takes frames, the answer queue has a free place, and the
cache does not hold the sequence (R129). -/
def State.executes (s : State) (q : Byte) : Prop :=
  s.active = true ∧ s.man.answers.length < Config.answerPlaces ∧ ∀ a ∈ s.man.cache, a.seq ≠ q

/-- The state after a valid frame of the supply link that changes nothing more: its receiver hunts (R176). -/
def State.onSupply (s : State) : State := { s with supply.receiver := huntingReceiver }

/-- The state `s` that a command's effect leaves, with its ANSWER placed and written into the cache (R129). -/
def State.settled (s : State) (q : Byte) (outcome : Settle) : State :=
  { s with man.answers := s.man.answers ++ [⟨q, outcome⟩], man.cache := some ⟨q, outcome⟩ }

/-- The state after a receive error on a link: the receiver hunts, the link's count for the error class rises by 1, and
LINK_ERRORS is raised with the class's code (R179). -/
def State.withError (s : State) (link : Link) (e : LinkError) : State :=
  let counted : State := match link, e with
    | .slot i, .framing =>
      s.setPort i { s.port i with receiver := huntingReceiver, framingErrors := countUp (s.port i).framingErrors }
    | .slot i, .crc =>
      s.setPort i { s.port i with receiver := huntingReceiver, crcErrors := countUp (s.port i).crcErrors }
    | .supply, .framing => { s.onSupply with supply.framingErrors := countUp s.supply.framingErrors }
    | .supply, .crc => { s.onSupply with supply.crcErrors := countUp s.supply.crcErrors }
  let origin : Origin := match link with
    | .slot i => .slot i
    | .supply => .supply
  counted.raise .linkErrors (some origin) (match e with | .framing => 1 | .crc => 2)

/-- A run of bytes at a receiver that nothing interrupts (R176): the bytes of the frame in progress after it, and the verdicts in order. -/
def receiveBytes (straps : BitVec 2) (link : Link) : List Byte → List Byte → List Byte × List Verdict
  | got, [] => (got, [])
  | got, b :: rest =>
    let (got', v) := receiveByte straps link got b
    let (got'', vs) := receiveBytes straps link got' rest
    (got'', v.toList ++ vs)

/-- Whether the slot holds a granted contract (R103). -/
def State.holdsGrant (s : State) (i : Slot) : Bool := s.adm.contracts.any fun c => c.slot == i && c.granted

/-- Whether a slot's record takes this declared class (R98). -/
def State.takesClass (s : State) (i : Slot) (cls : Byte) : Prop :=
  (s.policy i).requiredClass = 0 ∨ (s.policy i).requiredClass = cls

/-- The checks of R7 on a claim, all passed. -/
def State.claimPasses (s : State) (i : Slot) (t : Byte) (want least : Nat) : Prop :=
  (s.port i).state = .present ∧ 1 ≤ least ∧ least ≤ want ∧ s.tagInUse i t = false
    ∧ s.heldBy i < (s.policy i).maxContracts ∧ (∀ d ∈ (s.port i).declared, d.peak = 0 ∨ want ≤ d.peak)
    ∧ roundUp (s.policy i).step least ≤ (s.policy i).ceiling

/-- What lets a claim that passed its checks be offered power at once (R8): no bar, a free place, and a rounded least
within room and ceiling room. -/
def State.claimFits (s : State) (i : Slot) (least : Nat) : Prop :=
  s.bud.overcommit = false ∧ (∀ e ∈ s.adm.queue, s.entryClass e < (s.policy i).cls.code)
    ∧ s.adm.contracts.length < Config.contractPlaces
    ∧ roundUp (s.policy i).step least ≤ s.room ∧ roundUp (s.policy i).step least ≤ s.ceilingRoom i

/-- The entries a new claim of this class goes behind (R29). -/
def State.ahead (s : State) (queue : List QueueEntry) (cls : SlotClass) : List QueueEntry :=
  queue.takeWhile fun x => decide (cls.code ≤ s.entryClass x)

/-- The entries a new claim of this class goes ahead of (R29). -/
def State.behind (s : State) (queue : List QueueEntry) (cls : SlotClass) : List QueueEntry :=
  queue.dropWhile fun x => decide (cls.code ≤ s.entryClass x)

/-- The entry that a queued claim becomes (R27, R29). -/
def State.newEntry (s : State) (i : Slot) (t : Byte) (want least : Nat) : QueueEntry where
  slot := i
  tag := t
  want := roundWant (s.policy i).step want
  least := roundUp (s.policy i).step least
  waitDeadline := if (s.policy i).waitLimit = 0 then none else some (s.now + 1000 * (s.policy i).waitLimit)
  reliefRequested := false

/-- Whether a slot's traffic is relayed (R169, R171). -/
def State.relayed (s : State) (i : Slot) : Prop :=
  ((s.port i).state = .present ∨ (s.port i).state = .penalty) ∧ (s.policy i).forward = true

/-- The bits of a set of kinds that a list of kind codes names (R123, R136). -/
def namedBy (kinds : List Byte) (n : Nat) : Bool := kinds.any fun c => c.toNat == n

/-- The queue of notices after its oldest record leaves: the next one becomes SENT (R152). -/
def nextSent : List Notice → List Notice
  | [] => []
  | n :: rest => { n with state := .sent 0 .offered } :: rest

end Sys2Proof.Machine
end

