-- ==== Sys2Proof/Certificates/Slice0/Obligations.lean ====
section
/-!
DEFINITION. The statements for the provers: the step, what reset leaves, the laws every step keeps, the framing, and
what each command does. A state written as an update of `s` says the frame too: all that it does not name is as in
`s`.
-/

open Sys2Proof Sys2Proof.Machine

/-! ## The step -/

/-- A step runs the command at the front of the queue of waiting commands, with the rest left waiting. The one queue is
the model's choice (notes/assumptions/14.md): the spec says that each event is taken at the block that owns its state,
and leaves open which of two events comes first. -/
def Obligations.StepRunsFrontCommand : Prop :=
  ∀ (c : Instr) (rest : List Instr) (s : State),
    step { s with pending := c :: rest } = exec c { s with pending := rest }

/-- What a hard reset leaves, and the laws hold of it. The time base, the straps and the figures before the scan
are the model's choice (notes/assumptions/3.md), and so are pages 1 to 7 (notes/assumptions/4.md). -/
def Obligations.ResetStateIsSound : Prop :=
  State.reset.part = .starting ∧ State.reset.pending = [] ∧ State.reset.page 0 = .valid factoryImage
    ∧ State.reset.StartsClean ∧ State.reset.TablesValid ∧ State.reset.Accounts ∧ State.reset.QueueOrdered
    ∧ State.reset.PresenceHolds ∧ State.reset.WithinPlaces ∧ State.reset.NoticesOrdered ∧ State.reset.StoreHolds
    ∧ State.reset.BudgetAgrees ∧ State.reset.SlotsShaped

/-! ## Laws that every step keeps -/

/-- R165: while STARTING, every block keeps its reset values. The effective budget, the limit and the marks among them
are 0 by the model's choice (notes/assumptions/3.md). -/
def Obligations.StartingStaysClean : Prop :=
  ∀ s t : State, s.StartsClean → step s = .next t → t.StartsClean

/-- R113, R122: the tables, the items and the images stay valid. -/
def Obligations.TablesStayValid : Prop :=
  ∀ s t : State, s.TablesValid → step s = .next t → t.TablesValid

/-- R4, R65: committed power and pledged relief stay the sums they are, and every target below its amount. -/
def Obligations.AccountsStayExact : Prop :=
  ∀ s t : State, s.TablesValid → s.QueueOrdered → s.Accounts → step s = .next t → t.Accounts

/-- R3, R28: pairs stay unique, and the service order stays the arrival order sorted by class. -/
def Obligations.QueueStaysOrdered : Prop :=
  ∀ s t : State, s.StartsClean → s.QueueOrdered → step s = .next t → t.QueueOrdered

/-- R102, R103: contracts and claims belong to PRESENT slots, and the enable outputs say who holds a grant. -/
def Obligations.GrantsStayWithPresentSlots : Prop :=
  ∀ s t : State, s.StartsClean → s.PresenceHolds → step s = .next t → t.PresenceHolds

/-- R1, R27, R104, R106, R107, R128, R168: no table or queue outgrows its places. -/
def Obligations.PlacesStayEnough : Prop :=
  ∀ s t : State, s.TablesValid → s.QueueOrdered → s.WithinPlaces → step s = .next t → t.WithinPlaces

/-- R149, R150, R152: the notice queue keeps its order, its keys and its places. -/
def Obligations.NoticesStayOrdered : Prop :=
  ∀ s t : State, s.NoticesOrdered → step s = .next t → t.NoticesOrdered

/-- R158, R160: page 0 is never BLANK nor the page of an erase or save in progress, no two VALID pages have one
generation, and a save in progress writes an image with a greater generation than any VALID page to a BLANK page. The
clause that the image of every VALID page is intact (R156) is the model's choice: R157 and R165 allow a VALID page whose
image is not intact until the scan finds it, while in the model a page keeps what was written and its reading back is an
operand (notes/assumptions/5.md). It holds whatever the check is, a free value (notes/assumptions/22.md). -/
def Obligations.StoreStaysSound : Prop :=
  ∀ s t : State, s.StoreHolds → step s = .next t → t.StoreHolds

/-- R49, R52, R53, R54: figures and flags agree with their inputs after every step. -/
def Obligations.BudgetStaysWorkedOut : Prop :=
  ∀ s t : State, s.StartsClean → s.TablesValid → s.BudgetAgrees → step s = .next t → t.BudgetAgrees

/-- R94 to R101: each port holds what its slot's state asks, and DISABLED goes with enabled no. -/
def Obligations.SlotsStayShaped : Prop :=
  ∀ s t : State, s.StartsClean → s.SlotsShaped → step s = .next t → t.SlotsShaped

/-! ## Framing -/

/-- R176 to R178, R180: a receiver that hunts takes the frame that carries a well-formed command, byte by byte,
for that command and nothing else, and hunts again. -/
def Obligations.ReceiverTakesFormedFrame : Prop :=
  ∀ (straps : BitVec 2) (c : Instr) (link : Link) (bytes : List Byte),
    c.wellFormed = true → frameOf straps c = some (link, bytes) →
      receiveBytes straps link [] bytes = ([], [.accepted c])

/-- 12 "The policy record": a valid record is 26 bytes, and the bytes give the record back. -/
def Obligations.PolicyRecordRoundTrip : Prop :=
  ∀ p : Policy, p.valid = true → p.bytes.length = 26 ∧ Policy.ofBytes? p.bytes = some p

/-! ## Power frames -/

/-- R7, R8, R9: a claim that passes its checks and fits becomes an OFFERED contract of the smaller of its rounded
want and the room rounded down, and OFFER is placed. -/
def Obligations.ClaimThatFitsIsOffered : Prop :=
  ∀ (s : State) (i : Slot) (t : Byte) (want least : Half),
    let p := s.policy i
    let amount := min (roundWant p.step want.toNat) (roundDown p.step (min s.room (s.ceilingRoom i)))
    s.active = true → s.claimPasses i t want.toNat least.toNat → s.claimFits i least.toNat →
      exec (.claim i t want least) s =
        .next ((evalFlags
          { s.onHearing i with
            adm.contracts := s.adm.contracts ++ [⟨i, t, amount, .offered (s.now + s.pol.items.acceptWindow)⟩]
            adm.committed := s.adm.committed + amount }).order i (.offer t amount p.lease))

/-- R8, R27, R29: a claim that passes its checks and does not fit is placed behind every entry of its class or
higher, and answered QUEUED with its position; nothing else changes. -/
def Obligations.ClaimThatWaitsIsQueued : Prop :=
  ∀ (s : State) (i : Slot) (t : Byte) (want least : Half),
    let cls := (s.policy i).cls
    s.active = true → s.claimPasses i t want.toNat least.toNat → ¬ s.claimFits i least.toNat →
    s.adm.queue.length < Config.queuePlaces →
      exec (.claim i t want least) s =
        .next
          { s.answered i (.queued t (s.ahead s.adm.queue cls).length) with
            adm.queue := s.ahead s.adm.queue cls
              ++ s.newEntry i t want.toNat least.toNat :: s.behind s.adm.queue cls
            adm.arrival := s.adm.arrival ++ [(i, t)] }

/-- R30, R32: at a full queue a last entry of lower class is displaced with REFUSE(DISPLACED), the claim takes its
place, and one pass follows; a last entry of equal or higher class leaves the claim refused QUEUE_FULL. -/
def Obligations.ClaimAtFullQueue : Prop :=
  ∀ (s : State) (i : Slot) (t : Byte) (want least : Half) (last : QueueEntry),
    let cls := (s.policy i).cls
    let queue := s.adm.queue.eraseP (QueueEntry.isOf last.slot last.tag)
    s.active = true → s.claimPasses i t want.toNat least.toNat → ¬ s.claimFits i least.toNat →
    Config.queuePlaces ≤ s.adm.queue.length → s.adm.queue.getLast? = some last →
      if s.entryClass last < cls.code then
        exec (.claim i t want least) s =
          .next (runPass
            ((({ s.onHearing i with
                adm.queue := s.ahead queue cls
                  ++ s.newEntry i t want.toNat least.toNat :: s.behind queue cls
                adm.arrival := s.adm.arrival.erase (last.slot, last.tag) ++ [(i, t)]
                eng.record := s.eng.record.filter fun r => !(r.slot == last.slot && r.tag == last.tag) } : State).reply
                  last.slot (.refuse last.tag .displaced)).reply i (.queued t (s.ahead queue cls).length)))
      else exec (.claim i t want least) s = .next (s.answered i (.refuse t .queueFull))

/-- R7: the checks on a claim, in order; the first that fails settles it with its reason and leaves no trace. -/
def Obligations.ClaimRefusalsInOrder : Prop :=
  ∀ (s : State) (i : Slot) (t : Byte) (want least : Half), s.active = true →
    let refused (reason : RefuseReason) : Prop :=
      exec (.claim i t want least) s = .next (s.answered i (.refuse t reason))
    ((s.port i).state = .penalty → refused .penalty)
    ∧ ((s.port i).state = .mismatch → refused .mismatch)
    ∧ ((s.port i).state = .joining → refused .notReady)
    ∧ ((s.port i).state = .present →
        if least.toNat < 1 ∨ want.toNat < least.toNat then refused .malformed
        else if s.tagInUse i t = true then refused .tagInUse
        else if (s.policy i).maxContracts ≤ s.heldBy i then refused .slotLimit
        else if ∃ d ∈ (s.port i).declared, d.peak ≠ 0 ∧ d.peak < want.toNat then refused .beyondDeclared
        else (s.policy i).ceiling < roundUp (s.policy i).step least.toNat → refused .ceiling)

/-- R11, R19: ACCEPT moves an OFFERED contract to HELD with its lease, over-count and report deadline, and asserts
the enable output of a PRESENT slot; RENEW sets or discards the lease of a granted contract. Both answer GRANTED.
-/
def Obligations.AcceptAndRenewAnswerGranted : Prop :=
  ∀ (s : State) (i : Slot) (t : Byte) (c : Contract),
    let p := s.policy i
    let lease : Option Time := if p.lease = 0 then none else some (s.now + 1000 * p.lease)
    let report : Option Time := if p.reportInterval = 0 then none else some (s.now + 3 * p.reportInterval)
    s.hands i → s.contract? i t = some c →
      if c.granted = true then
        exec (.renew i t) s =
          .next
            { s.answered i (.granted t c.amount) with
              adm.contracts := modifyFirst (Contract.isOf i t)
                (Contract.onGrant fun g => { g with leaseExpiry := lease }) s.adm.contracts }
      else
        exec (.accept i t) s =
          .next
            { s with
              ports := s.ports.set i
                ({ s.heard i with enable := decide ((s.port i).state = SlotState.present) }.withAnswer (.granted t c.amount))
              adm.contracts := modifyFirst (Contract.isOf i t)
                (fun c => { c with state := .held ⟨lease, 0, report⟩ }) s.adm.contracts }

/-- R12, R15, R18, R19, R21, R25, R33, R68: a frame whose tag is in no state it acts on is refused, or counted as
a stray frame for REPORT, and the table, the queue and every figure stay as they were. -/
def Obligations.FramesOutOfStateAreRefused : Prop :=
  ∀ (s : State) (i : Slot) (t : Byte) (x : Half), s.hands i →
    let refused (c : Instr) (reason : RefuseReason) : Prop := exec c s = .next (s.answered i (.refuse t reason))
    let amount := roundUp (s.policy i).step x.toNat
    let stray := s.setPort i { s.heard i with strayFrames := countUp (s.heard i).strayFrames }
    match s.contract? i t with
    | none =>
      refused (.accept i t) .stale ∧ refused (.decline i t) .stale ∧ refused (.adjust i t x) .unknownTag
        ∧ refused (.renew i t) .unknownTag ∧ refused (.comply i t) .unknownTag
        ∧ (s.claim? i t = none → refused (.release i t) .unknownTag) ∧ exec (.report i t x) s = .next stray
    | some c =>
      match c.state with
      | .offered _ =>
        refused (.adjust i t x) .wrongState ∧ refused (.renew i t) .wrongState ∧ refused (.comply i t) .wrongState
          ∧ exec (.report i t x) s = .next stray
      | .held _ =>
        refused (.accept i t) .wrongState ∧ refused (.decline i t) .wrongState ∧ refused (.comply i t) .wrongState
          ∧ (amount = 0 → refused (.adjust i t x) .malformed)
      | .shedding _ sh =>
        refused (.accept i t) .wrongState ∧ refused (.decline i t) .wrongState
          ∧ (amount = 0 → refused (.adjust i t x) .malformed)
          ∧ (sh.target < amount → refused (.adjust i t x) .wrongState)

/-- R22, R4, R65, R103: removing a contract takes its amount from committed power and its relief from pledged
relief, re-evaluates the slot's enable output and then the flags; nothing else changes. -/
def Obligations.RemovalOfAContract : Prop :=
  ∀ (s : State) (i : Slot) (t : Byte) (c : Contract), s.contract? i t = some c →
    let rest := s.adm.contracts.eraseP (Contract.isOf i t)
    s.closeContract i t =
      evalFlags
        { s with
          adm.contracts := rest
          adm.committed := s.adm.committed - c.amount
          eng.pledged := s.eng.pledged - c.relief
          ports := s.ports.set i
            { s.port i with
              enable := decide ((s.port i).state = SlotState.present) && rest.any fun d => d.slot == i && d.granted } }

/-- R13, R14, R22, R23, R32: DECLINE of an offer and RELEASE of a contract or a claim answer CLOSED and run one
pass; a SHEDDING contract's end also calls for a re-check. -/
def Obligations.DeclineAndReleaseClose : Prop :=
  ∀ (s : State) (i : Slot) (t : Byte), s.hands i →
    match s.contract? i t, s.claim? i t with
    | some c, _ =>
      let closed (reason : ClosedReason) : State :=
        runPass (((s.onHearing i).closeContract i t).reply i (.closed t reason))
      (c.isOffered = true → exec (.decline i t) s = .next (closed .declined))
        ∧ (c.isShedding = false → exec (.release i t) s = .next (closed .released))
        ∧ (c.isShedding = true → exec (.release i t) s = .next (budgetRound .normal (closed .released)))
    | none, some _ =>
      exec (.release i t) s =
        .next (runPass
          { s.answered i (.closed t .released) with
            adm.queue := s.adm.queue.eraseP (QueueEntry.isOf i t)
            adm.arrival := s.adm.arrival.erase (i, t)
            eng.record := s.eng.record.filter fun r => !(r.slot == i && r.tag == t) })
    | none, none => True

/-- R5, R16, R17: ADJUST of a HELD contract, by where the rounded amount lies: refused CEILING, granted as it is,
lowered with a pass, raised whole, or refused NO_ROOM. -/
def Obligations.HeldContractIsAdjusted : Prop :=
  ∀ (s : State) (i : Slot) (t : Byte) (x : Half) (c : Contract) (g : Grant),
    let amount := roundUp (s.policy i).step x.toNat
    let moved (committed : Nat) : State := evalFlags
      { s.onHearing i with
        adm.contracts := modifyFirst (Contract.isOf i t) (fun c => { c with amount := amount }) s.adm.contracts
        adm.committed := committed }
    s.hands i → s.contract? i t = some c → c.state = .held g → amount ≠ 0 →
      if c.amount + s.ceilingRoom i < amount then
        exec (.adjust i t x) s = .next (s.answered i (.refuse t .ceiling))
      else if amount = c.amount then exec (.adjust i t x) s = .next (s.answered i (.granted t amount))
      else if amount < c.amount then
        exec (.adjust i t x) s =
          .next (runPass ((moved (s.adm.committed - (c.amount - amount))).reply i (.granted t amount)))
      else if s.bud.overcommit = false ∧ (∀ e ∈ s.adm.queue, s.entryClass e < (s.policy i).cls.code)
          ∧ amount - c.amount ≤ s.room then
        exec (.adjust i t x) s =
          .next ((moved (s.adm.committed + (amount - c.amount))).reply i (.granted t amount))
      else exec (.adjust i t x) s = .next (s.answered i (.refuse t .noRoom))

/-- R18, R67, R68, R69: a SHEDDING contract complies by COMPLY, by an ADJUST at or below its target, or by a
REPORT at or below its target: it is HELD at the new amount, committed power and pledged relief fall, and a pass
and a re-check follow. The REPORT is not answered, and the Draw Monitor then judges it; that the pass and the
re-check come before its judgement is the model's reading (notes/assumptions/13.md). -/
def Obligations.ComplianceByThreeFrames : Prop :=
  ∀ (s : State) (i : Slot) (t : Byte) (x : Half) (c : Contract) (g : Grant) (sh : Shed),
    let adjusted := roundUp (s.policy i).step x.toNat
    let complied (amount : Nat) : State :=
      { evalFlags
          { s.onHearing i with
            adm.contracts := modifyFirst (Contract.isOf i t)
              (fun c => { c with amount := amount, state := .held g }) s.adm.contracts
            adm.committed := s.adm.committed - (c.amount - amount) } with
        eng.pledged := s.eng.pledged - (c.amount - sh.target) }
    let followed (u : State) : State := budgetRound .normal (runPass u)
    s.hands i → s.contract? i t = some c → c.state = .shedding g sh →
      exec (.comply i t) s = .next (followed ((complied sh.target).reply i (.granted t sh.target)))
      ∧ (adjusted ≠ 0 → adjusted ≤ sh.target →
          exec (.adjust i t x) s = .next (followed ((complied adjusted).reply i (.granted t adjusted))))
      ∧ (x.toNat ≤ sh.target →
          exec (.report i t x) s = .next (judgeReport i t x.toNat (followed (complied sh.target))))

/-- R80 to R83: a REPORT that brings no compliance restarts or discards the report deadline; within the allowance
it zeroes the over-count; above it the count rises, and at the debounce it is zeroed, VIOLATION is raised and
under CUT the slot is cut. -/
def Obligations.ReportsAreJudged : Prop :=
  ∀ (s : State) (i : Slot) (t : Byte) (x : Half) (c : Contract),
    let p := s.policy i
    let report : Option Time := if p.reportInterval = 0 then none else some (s.now + 3 * p.reportInterval)
    let counted (n : Nat) : State :=
      { s.onHearing i with
        adm.contracts := modifyFirst (Contract.isOf i t)
          (Contract.onGrant fun g => { g with overCount := n, reportDeadline := report }) s.adm.contracts }
    let violation := (counted 0).raise .violation (some (.slot i)) x.toNat
    s.hands i → s.contract? i t = some c → c.granted = true →
    (∀ g sh, c.state = .shedding g sh → sh.target < x.toNat) →
      if x.toNat ≤ c.amount + c.amount * p.tolerance / 100 then exec (.report i t x) s = .next (counted 0)
      else if c.overCount + 1 < p.debounce then exec (.report i t x) s = .next (counted (c.overCount + 1))
      else match p.action with
        | .notify => exec (.report i t x) s = .next violation
        | .cut => exec (.report i t x) s = .next (cutAndFollow i .overdraw violation)

/-! ## Expiries of contracts and claims -/

/-- R10, R20, R34: an offer that is not accepted, a lease that ends and a claim that waits too long leave with
CLOSED or REFUSE, and a pass follows; a SHEDDING contract's end also calls for a re-check. The expiry is taken at
its deadline at the earliest (the model's choice, notes/assumptions/2.md). -/
def Obligations.ExpiriesEndContractsAndClaims : Prop :=
  ∀ (s : State) (i : Slot) (t : Byte) (d : Time), s.active = true →
    let u : State := { s with now := max s.now d }
    (∀ c, s.contract? i t = some c → c.state = .offered d →
      exec (.offerDeadline i t) s = .next (runPass ((u.closeContract i t).order i (.closed t .acceptTimeout))))
    ∧ (∀ c, s.contract? i t = some c → c.leaseExpiry? = some d →
        let closed := runPass ((u.closeContract i t).order i (.closed t .leaseExpired))
        exec (.leaseExpiry i t) s = .next (if c.isShedding = true then budgetRound .normal closed else closed))
    ∧ (∀ e, s.claim? i t = some e → e.waitDeadline = some d →
        exec (.waitDeadline i t) s =
          .next (runPass
            (({ u with
                adm.queue := s.adm.queue.eraseP (QueueEntry.isOf i t)
                adm.arrival := s.adm.arrival.erase (i, t)
                eng.record := s.eng.record.filter fun r => !(r.slot == i && r.tag == t)
                ports := s.ports.set i ((s.port i).withAnswer (.refuse t .waitLimit)) } : State).raise
              .queueTimeout (some (.slot i)) t.toNat)))

/-- R70, R82, R84: a shed deadline cuts the slot with SHED_FAILED; a report deadline raises VIOLATION with detail
0, and then under NOTIFY the deadline is restarted, under CUT the slot is cut with SILENCE. An expiry is taken at
its deadline at the earliest (the model's choice, notes/assumptions/2.md). -/
def Obligations.MissedDeadlinesArePoliced : Prop :=
  ∀ (s : State) (i : Slot) (t : Byte) (d : Time) (c : Contract), s.active = true → s.contract? i t = some c →
    let u : State := { s with now := max s.now d }
    let p := s.policy i
    let report : Option Time := if p.reportInterval = 0 then none else some (u.now + 3 * p.reportInterval)
    (∀ g sh, c.state = .shedding g sh → sh.deadline = d →
      exec (.shedDeadline i t) s = .next (cutAndFollow i .shedFailed u))
    ∧ (c.reportDeadline? = some d →
        match p.action with
        | .notify =>
          exec (.reportDeadline i t) s =
            .next (({ u with
              adm.contracts := modifyFirst (Contract.isOf i t)
                (Contract.onGrant fun g => { g with reportDeadline := report }) s.adm.contracts } : State).raise
              .violation (some (.slot i)) 0)
        | .cut =>
          exec (.reportDeadline i t) s =
            .next (cutAndFollow i .silence (u.raise .violation (some (.slot i)) 0)))

/-- R24, R42, R87, R88, R89: a teardown removes the slot's contracts and claims without frames, as one change of
committed power; a cut of a PRESENT slot goes through its stages in order, and in any other state does nothing;
the pass and the re-check follow a cut that removed something. -/
def Obligations.CutAndTeardownByStages : Prop :=
  ∀ (s : State) (i : Slot) (reason : CutReason),
    (s.teardown i =
      evalFlags
        { s with
          adm.contracts := s.adm.contracts.filter (·.slot != i)
          adm.queue := s.adm.queue.filter (·.slot != i)
          adm.arrival := s.adm.arrival.filter (·.1 != i)
          adm.committed := s.adm.committed - totalAmount (s.contractsOf i)
          eng.pledged := s.eng.pledged - totalRelief (s.contractsOf i)
          eng.record := s.eng.record.filter (·.slot != i)
          ports := s.ports.set i { s.port i with enable := false } })
    ∧ ((s.port i).state = .present →
        let u := ((s.setPort i { s.port i with enable := false }).teardown i).order i (.cut reason)
        let cut := (u.setPort i
          { u.port i with
            state := .penalty, penaltyEnd := some (s.now + 1000 * (s.policy i).penaltyHold) }).raise
              .cut (some (.slot i)) reason.code
        s.cut i reason = cut
          ∧ (s.heldBy i = 0 → cutAndFollow i reason s = cut)
          ∧ (s.heldBy i ≠ 0 → s.sheds i = false → cutAndFollow i reason s = runPass cut)
          ∧ (s.sheds i = true → cutAndFollow i reason s = budgetRound .normal (runPass cut)))
    ∧ ((s.port i).state ≠ .present → s.cut i reason = s ∧ cutAndFollow i reason s = s)

/-- R6, R95, R96, R97, R141, R165, R169: every frame is discarded whole while the part takes no frames, and a module's
frame, with any bytes on its link, while its slot is DISABLED; in VACANT a power frame or DATA leaves only the receiver
hunting. R10, R14, R48, R67, R70, R91, R96, R141, R153, R165: an expiry or a completion has no effect where nothing of
its kind runs: no contract, or one that is not in the state or has not the deadline; no claim, or one without a wait
deadline; another store operation, or none; and no expiry has an effect while the part takes no frames. Three clauses
are the model's choice. A command that names nothing the state holds changes nothing (notes/assumptions/9.md). A DATA
frame of a DISABLED slot is discarded uncounted, where R174 would count one taken after a disabling commit
(notes/assumptions/20.md). An ACCEPT of a DISABLED slot is discarded unanswered, where R121 would answer one taken
after such a commit (notes/assumptions/23.md). Management commands: CommandsAreTakenOnce. -/
def Obligations.NothingToActOn : Prop :=
  ∀ (s : State) (i : Slot) (t q slot cls : Byte) (link : Link) (amount : Half) (urgency : Urgency)
    (payload bytes : List Byte) (asWritten : Bool),
    let still (c : Instr) : Prop := exec c s = .next s
    let hunting (c : Instr) : Prop := exec c s = .next (s.setPort i { s.port i with receiver := huntingReceiver })
    (∀ c, powerSlot? c = some i →
      (s.active = false ∨ (s.port i).state = .disabled → still c)
      ∧ (s.active = true → (s.port i).state = .vacant → hunting c))
    ∧ (s.active = false ∨ (s.port i).state = .disabled →
        still (.present i cls amount) ∧ still (.data i q payload) ∧ still (.frameReceiveError (.slot i) bytes)
          ∧ still (.byteGapTimeout (.slot i)))
    ∧ (s.active = true → (s.port i).state = .vacant → payload.length ≤ 31 → hunting (.data i q payload))
    ∧ (s.active = false →
      still (.budget q amount urgency) ∧ still (.noticeAck t) ∧ still (.dataDown q slot payload)
        ∧ still (.frameReceiveError link bytes)
        ∧ still (.offerDeadline i t) ∧ still (.leaseExpiry i t) ∧ still (.waitDeadline i t) ∧ still .staleDeadline
        ∧ still (.shedDeadline i t) ∧ still (.reportDeadline i t) ∧ still (.penaltyEndTime i)
        ∧ still (.probeDeadline i) ∧ still (.answerDeadline i) ∧ still .retransmitDeadline
        ∧ still (.byteGapTimeout link) ∧ still (.slotTransmissionBegin i))
    ∧ (match s.contract? i t with
      | none =>
        still (.offerDeadline i t) ∧ still (.leaseExpiry i t) ∧ still (.shedDeadline i t) ∧ still (.reportDeadline i t)
      | some c => match c.state with
        | .offered _ => still (.leaseExpiry i t) ∧ still (.shedDeadline i t) ∧ still (.reportDeadline i t)
        | .held g =>
          still (.offerDeadline i t) ∧ still (.shedDeadline i t) ∧ (g.leaseExpiry = none → still (.leaseExpiry i t))
            ∧ (g.reportDeadline = none → still (.reportDeadline i t))
        | .shedding g _ =>
          still (.offerDeadline i t) ∧ (g.leaseExpiry = none → still (.leaseExpiry i t))
            ∧ (g.reportDeadline = none → still (.reportDeadline i t)))
    ∧ ((∀ e ∈ s.claim? i t, e.waitDeadline = none) → still (.waitDeadline i t))
    ∧ (s.bud.staleDeadline = none → still .staleDeadline)
    ∧ ((s.port i).penaltyEnd = none ∨ (s.port i).state ≠ .penalty → still (.penaltyEndTime i))
    ∧ ((s.port i).probeDeadline = none → still (.probeDeadline i))
    ∧ ((s.port i).answerDeadline = none → still (.answerDeadline i))
    ∧ ((∀ n ∈ s.ntc.queue, ∀ sends d, n.state ≠ .sent sends (.awaiting d)) → still .retransmitDeadline)
    ∧ ((s.receiver link).gapDeadline = none → still (.byteGapTimeout link))
    ∧ ((∀ p, s.store.op ≠ some (.erase p)) → still .storeEraseCompletion)
    ∧ ((∀ p img, s.store.op ≠ some (.save p img)) → still (.storeSaveCompletion asWritten))
    ∧ ((∀ p, s.store.op ≠ some (.load p)) → still .storeLoadCompletion)
    ∧ ((s.port i).transmission = none → still (.slotTransmissionSent i))
    ∧ (s.supply.transmission = none → still .upstreamTransmissionSent)
    ∧ (s.part = .starting → still .upstreamTransmissionBegin) ∧ (s.part = .running → still .startUpScanEnd)

/-! ## The budget -/

/-- R45, R46, R47, R49: a fresh BUDGET frame is announced, its figures worked out, the flags re-evaluated; a fall
of the limit asks for a round of its urgency, a rise for a pass, and an IMMEDIATE frame that did not lower the
limit asks for a round where the shelf is overcommitted. Any other frame changes nothing but the receiver. -/
def Obligations.BudgetFramesAreTaken : Prop :=
  ∀ (s : State) (seq : Byte) (amount : Half) (urgency : Urgency), s.active = true →
    let fresh := ∀ last ∈ s.bud.lastSequence, 1 ≤ (seq - last).toNat ∧ (seq - last).toNat ≤ 127
    let told : State :=
      { s.onSupply with
        bud.announced := some amount.toNat
        bud.lastSequence := some seq
        bud.staleDeadline := some (s.now + s.pol.items.staleTimeout)
        bud.stale := false }
    let resumed := if s.bud.stale = true then told.raise .budgetResumed none amount.toNat else told
    let effective := min s.pol.items.budgetCap amount.toNat
    let limit := effective - s.pol.items.reserve
    let u := evalFlags
      { resumed with
        bud.effective := effective
        bud.limit := limit
        bud.highMark := limit * s.pol.items.highMark / 100
        bud.lowMark := limit * s.pol.items.lowMark / 100 }
    let passed := if s.bud.limit < limit then runPass u else u
    (fresh →
      exec (.budget seq amount urgency) s =
        .next (if limit < s.bud.limit then budgetRound urgency u
          else if urgency = .immediate ∧ limit < passed.adm.committed then budgetRound .immediate passed
          else passed))
    ∧ (¬ fresh → exec (.budget seq amount urgency) s = .next s.onSupply)

/-- R48, R49: at the stale deadline the flag is set, BUDGET_STALE is raised, and the figures are worked out from
SAFE_BUDGET, with a NORMAL round on a fall of the limit and a pass on a rise. An expiry is taken at its deadline
at the earliest (the model's choice, notes/assumptions/2.md). -/
def Obligations.StaleBudgetFallsBack : Prop :=
  ∀ (s : State) (d : Time), s.active = true → s.bud.staleDeadline = some d →
    let items := s.pol.items
    let effective := min items.budgetCap items.safeBudget
    let limit := effective - items.reserve
    let told := ({ s with now := max s.now d, bud.staleDeadline := none, bud.stale := true } : State).raise
      .budgetStale none effective
    let u := evalFlags
      { told with
        bud.effective := effective
        bud.limit := limit
        bud.highMark := limit * items.highMark / 100
        bud.lowMark := limit * items.lowMark / 100 }
    exec .staleDeadline s =
      .next (if limit < s.bud.limit then budgetRound .normal u else if s.bud.limit < limit then runPass u else u)

/-- R52, R54: the flags take the values their tests give, the overcommit flag first, and each raises its event
exactly when it changes; nothing else changes. -/
def Obligations.FlagsFollowTheFigures : Prop :=
  ∀ s : State,
    let committed := s.adm.committed
    let exceeds := decide (s.bud.limit < committed)
    let mark := if s.bud.highMark ≤ committed ∧ 0 < s.bud.limit then true
      else if committed ≤ s.bud.lowMark then false else s.bud.watermark
    let overEvent : EventKind × Nat :=
      if exceeds = true then (.overcommit, min (committed - s.bud.limit) 65535) else (.overcommitCleared, committed)
    let first : State := { s with bud.overcommit := exceeds }
    let first := if exceeds = s.bud.overcommit then first else first.raise overEvent.1 none overEvent.2
    let second : State := { first with bud.watermark := mark }
    evalFlags s =
      if mark = s.bud.watermark then second
      else second.raise (if mark = true then .watermark else .watermarkCleared) none committed

/-! ## Rounds and passes -/

/-- R58 to R63, R71, R76: a round acts on one victim at a time and works out its need afresh after each act. Either
round first withdraws OFFERED contracts, each closed with CLOSED(WITHDRAWN). A NORMAL budget round and a preempt round
then shed: the relief is the smaller of the amount minus the floor and the need rounded up to the step, the target is
the amount minus the relief, the deadline is one shed window away, pledged relief rises by the relief, and SHED is
placed. An IMMEDIATE round cuts the victim's slot instead. A preempt round lowers the need of its request by each
amount and relief. A round ends with no need, or with no victim left: no OFFERED contract below CRITICAL, and no HELD
one above its floor (NORMAL) or none granted at all (IMMEDIATE). One pass follows a round that withdrew or cut
something; the round that a request leads to says so. -/
def Obligations.RoundsEndWithoutNeedOrVictim : Prop :=
  ∀ (s : State) (urgency : Urgency) (r : PreemptRecord), s.TablesValid → s.QueueOrdered → s.PresenceHolds →
    let ends := budgetActs urgency s
    let need := s.adm.committed - (s.bud.limit + s.eng.pledged)
    let withdrawn (c : Contract) : State :=
      (s.closeContract c.slot c.tag).order c.slot (.closed c.tag .withdrawn)
    let relief (c : Contract) (need : Nat) : Nat :=
      min (c.amount - (s.policy c.slot).floor) (roundUp (s.policy c.slot).step need)
    let shed (c : Contract) (g : Grant) (relief : Nat) : State :=
      let window := (s.policy c.slot).shedWindow
      ({ s with
        adm.contracts := modifyFirst (Contract.isOf c.slot c.tag)
          (fun c => { c with state := .shedding g ⟨c.amount - relief, s.now + window, false⟩ }) s.adm.contracts
        eng.pledged := s.eng.pledged + relief } : State).order c.slot (.shed c.tag (c.amount - relief) window)
    budgetRound urgency s = (if ends.2 = true then runPass ends.1 else ends.1)
      ∧ (if need = 0 then ends = (s, false)
        else match s.withdrawVictim 3, urgency with
          | some c, _ => ends = ((budgetActs urgency (withdrawn c)).1, true)
          | none, .normal => match s.shedVictim 3 with
            | some c => ∀ g, c.state = .held g → ends = budgetActs .normal (shed c g (relief c need))
            | none => ends = (s, false)
          | none, .immediate => match s.cutVictim 3 with
            | some c => ends = ((budgetActs .immediate (s.cut c.slot .immediate)).1, true)
            | none => ends = (s, false))
      ∧ (ends.1.adm.committed ≤ ends.1.bud.limit + ends.1.eng.pledged
        ∨ ∀ c ∈ ends.1.adm.contracts, s.contractClass c < SlotClass.critical.code →
          c.isOffered = false ∧ match urgency with
            | .normal => c.isHeld = true → c.amount ≤ (s.policy c.slot).floor
            | .immediate => c.granted = false)
      ∧ (if r.need = 0 then preemptRound r s = (s, false)
        else match s.withdrawVictim r.cls.code with
          | some c => preemptRound r s = ((preemptRound { r with need := r.need - c.amount } (withdrawn c)).1, true)
          | none => match s.shedVictim r.cls.code with
            | some c => ∀ g, c.state = .held g →
                preemptRound r s = preemptRound { r with need := r.need - relief c r.need } (shed c g (relief c r.need))
            | none => preemptRound r s = (s, false))

/-- R60, R61, R71: a round withdraws the youngest OFFERED contract of the lowest class, and sheds the HELD contract
above its floor, or cuts the slot of the HELD or SHEDDING contract, that is of the lowest class, then of the highest
shed rank, then the youngest; it finds none only where there is none. -/
def Obligations.VictimsInOrder : Prop :=
  ∀ (s : State) (bound : Nat),
    let offers (c : Contract) : Prop := c.isOffered = true ∧ s.contractClass c < bound
    let sheds (c : Contract) : Prop :=
      c.isHeld = true ∧ s.contractClass c < bound ∧ (s.policy c.slot).floor < c.amount
    let cuts (c : Contract) : Prop := c.granted = true ∧ s.contractClass c < bound
    let rank (c : Contract) : Nat := (s.policy c.slot).shedRank
    let first (eligible : Contract → Prop) (victim : Option Contract) : Prop := match victim with
      | none => ∀ c ∈ s.adm.contracts, ¬ eligible c
      | some c => eligible c ∧ ∃ older younger, s.adm.contracts = older ++ c :: younger
          ∧ (∀ d ∈ older, eligible d → s.contractClass c < s.contractClass d
              ∨ (s.contractClass c = s.contractClass d ∧ rank d ≤ rank c))
          ∧ ∀ d ∈ younger, eligible d → s.contractClass c < s.contractClass d
              ∨ (s.contractClass c = s.contractClass d ∧ rank d < rank c)
    (match s.withdrawVictim bound with
      | none => ∀ c ∈ s.adm.contracts, ¬ offers c
      | some c => offers c ∧ ∃ older younger, s.adm.contracts = older ++ c :: younger
          ∧ (∀ d ∈ older, offers d → s.contractClass c ≤ s.contractClass d)
          ∧ ∀ d ∈ younger, offers d → s.contractClass c < s.contractClass d)
    ∧ first sheds (s.shedVictim bound) ∧ first cuts (s.cutVictim bound)

/-- R59, R76: no budget round touches a contract of a CRITICAL slot, and no preempt round one of a class that is
not lower than the request's. -/
def Obligations.HigherClassesAreSpared : Prop :=
  ∀ (s : State) (c : Contract), c ∈ s.adm.contracts →
    (s.contractClass c = SlotClass.critical.code → ∀ urgency, c ∈ (budgetRound urgency s).adm.contracts)
    ∧ ∀ r : PreemptRecord, r.cls.code ≤ s.contractClass c → c ∈ (preemptRound r s).1.adm.contracts

/-- R35, R36, R38, R58: a pass walks the queue in service order and, where it stopped at an entry for want of room,
hands that entry off; where the round of the hand-off withdrew something, one more pass follows it, and so on. A pass
that follows a pass changes nothing, where every queued least is a multiple of its slot's step. What the walk does at
each entry, and what a hand-off does: PassTestsAndHandOff. -/
def Obligations.PassWalksAndHandsOff : Prop :=
  ∀ s : State, s.QueueOrdered →
    passWalk [] s = (s, none)
    ∧ (runPass s = match passWalk s.adm.queue s with
      | (walked, none) => walked
      | (walked, some e) =>
        if (handOff e walked).2 = true then runPass (handOff e walked).1 else (handOff e walked).1)
    ∧ ((∀ e ∈ s.adm.queue, (s.policy e.slot).step ∣ e.least) → runPass (runPass s) = runPass s)

/-- R36, R37, R38, R75: the tests of a pass at an entry, in order, and the contract that an admitted entry
becomes. An entry the pass stopped at asks for relief once, where its slot may preempt and is above LOW: with a
request on record only the flag is set, and otherwise the request is recorded and its round run at once. That the
ceiling case of R37 is looked at only after test 3 of R36 is the model's reading (notes/assumptions/11.md). -/
def Obligations.PassTestsAndHandOff : Prop :=
  ∀ (s : State) (e : QueueEntry) (rest : List QueueEntry),
    let step := (s.policy e.slot).step
    let amount := min e.want (roundDown step (min s.room (s.ceilingRoom e.slot)))
    let admitted : State := { s with
      adm.queue := s.adm.queue.eraseP (QueueEntry.isOf e.slot e.tag)
      adm.arrival := s.adm.arrival.erase (e.slot, e.tag)
      eng.record := s.eng.record.filter fun r => !(r.slot == e.slot && r.tag == e.tag)
      adm.contracts := s.adm.contracts ++ [⟨e.slot, e.tag, amount, .offered (s.now + s.pol.items.acceptWindow)⟩]
      adm.committed := s.adm.committed + amount }
    let p := s.policy e.slot
    let asks : Prop := p.preempt = true ∧ p.cls ≠ .low ∧ e.reliefRequested = false
    let marked : State := { s with
      adm.queue := modifyFirst (QueueEntry.isOf e.slot e.tag) (fun x => { x with reliefRequested := true }) s.adm.queue }
    let request : PreemptRecord := ⟨e.slot, e.tag, p.cls, roundUp p.step e.least - s.room⟩
    (passWalk (e :: rest) s =
      if Config.contractPlaces ≤ s.adm.contracts.length then (s, none)
      else if s.ceilingRoom e.slot < e.least then passWalk rest s
      else if s.bud.overcommit = true ∨ s.room < e.least then (s, some e)
      else if e.least ≤ amount then
        passWalk rest ((evalFlags admitted).order e.slot (.offer e.tag amount p.lease))
      else if roundDown step (s.ceilingRoom e.slot) < e.least then passWalk rest s
      else (s, some e))
    ∧ (¬ asks → handOff e s = (s, false))
    ∧ (asks → s.eng.record ≠ none → handOff e s = (marked, false))
    ∧ (asks → s.eng.record = none →
        handOff e s = preemptRound request { marked with eng.record := some request })

/-! ## The slots -/

/-- R97, R98, R101: a PRESENT frame by its slot's state: it answers an open window in VACANT and JOINING, it
updates the declared peak in PRESENT and PENALTY, and in MISMATCH it declares anew, with SLOT_JOINED where the
class is taken. -/
def Obligations.PresentFramesAreTaken : Prop :=
  ∀ (s : State) (i : Slot) (cls : Byte) (peak : Half), s.active = true →
    let p := s.port i
    let d : Declared := ⟨cls, peak.toNat⟩
    let gives (t : State) : Prop := exec (.present i cls peak) s = .next t
    let joined (q : SlotPort) : State :=
      (s.setPort i { q with declared := some d, state := .present, enable := s.holdsGrant i }).raise
        .slotJoined (some (.slot i)) cls.toNat
    match p.state with
    | .disabled => gives s
    | .vacant =>
      if p.answerDeadline = none then gives (s.setPort i { p with receiver := huntingReceiver })
      else gives (s.setPort i
        { p with
          receiver := huntingReceiver, state := .joining, joinCount := 1, declared := some d, answerDeadline := none })
    | .joining =>
      let second : SlotPort :=
        { p with
          receiver := huntingReceiver, joinCount := 2, missCount := 0, declared := some d, answerDeadline := none,
          probeDeadline := some (s.now + s.pol.items.probeInterval) }
      (p.answerDeadline = none → gives (s.setPort i { p with receiver := huntingReceiver }))
      ∧ (p.answerDeadline ≠ none → s.takesClass i cls → gives (joined second))
      ∧ (p.answerDeadline ≠ none → ¬ s.takesClass i cls →
          gives ((s.setPort i { second with state := .mismatch, enable := false }).raise
            .slotMismatch (some (.slot i)) cls.toNat))
    | .present | .penalty =>
      gives (s.setPort i { s.heard i with declared := p.declared.map fun x => { x with peak := peak.toNat } })
    | .mismatch =>
      (s.takesClass i cls → gives (joined (s.heard i)))
      ∧ (¬ s.takesClass i cls → gives (s.setPort i { s.heard i with declared := some d }))

/-- R96, R97, R98, R99, R100: a probe deadline places PROBE and opens an answer window; a window that closes
unanswered ends joining, or counts a miss, and at the third miss in a row the slot is LOST: its contracts and
claims go with what their teardown calls for, its queues are emptied, it becomes VACANT, and SLOT_LOST tells how
many it held. An expiry is taken at its deadline at the earliest (the model's choice, notes/assumptions/2.md). -/
def Obligations.ProbesAndWindows : Prop :=
  ∀ (s : State) (i : Slot) (d : Time), s.active = true →
    let p := s.port i
    let u : State := { s with now := max s.now d }
    let probed := u.order i .probe
    let vacated (q : SlotPort) : SlotPort :=
      { q with
        state := .vacant, joinCount := 0, missCount := 0, declared := none, answerDeadline := none, penaltyEnd := none,
        enable := false }
    (p.probeDeadline = some d →
      exec (.probeDeadline i) s =
        .next (probed.setPort i
          { probed.port i with
            answerDeadline := some (u.now + 5), probeDeadline := some (u.now + s.pol.items.probeInterval) }))
    ∧ (p.answerDeadline = some d →
        match p.state with
        | .disabled | .vacant =>
          exec (.answerDeadline i) s = .next (u.setPort i { p with answerDeadline := none, joinCount := 0 })
        | .joining => exec (.answerDeadline i) s = .next (u.setPort i (vacated p))
        | .present | .penalty | .mismatch =>
          if p.missCount + 1 < 3 then
            exec (.answerDeadline i) s =
              .next (u.setPort i { p with answerDeadline := none, missCount := p.missCount + 1 })
          else
            let off := u.setPort i { p with answerDeadline := none, missCount := p.missCount + 1, enable := false }
            let torn := if s.heldBy i = 0 then off.teardown i
              else if s.sheds i = true then budgetRound .normal (runPass (off.teardown i))
              else runPass (off.teardown i)
            exec (.answerDeadline i) s =
              .next ((torn.setPort i
                { vacated (torn.port i) with
                  orders := [], replies := [], downstream := [],
                  probeDeadline := some (u.now + s.pol.items.probeInterval) }).raise
                .slotLost (some (.slot i)) (s.heldBy i)))

/-- R91, R103: at the end of a penalty hold the slot is PRESENT again without an event, or MISMATCH with
SLOT_MISMATCH where its record no longer takes the declared class. An expiry is taken at its deadline at the
earliest (the model's choice, notes/assumptions/2.md). -/
def Obligations.PenaltyHoldEnds : Prop :=
  ∀ (s : State) (i : Slot) (d : Time) (x : Declared), s.active = true → (s.port i).state = .penalty →
    (s.port i).penaltyEnd = some d → (s.port i).declared = some x →
      let u : State := { s with now := max s.now d }
      let p : SlotPort := { s.port i with penaltyEnd := none }
      (s.takesClass i x.cls →
        exec (.penaltyEndTime i) s = .next (u.setPort i { p with state := .present, enable := s.holdsGrant i }))
      ∧ (¬ s.takesClass i x.cls →
          exec (.penaltyEndTime i) s =
            .next ((u.setPort i { p with state := .mismatch, enable := false }).raise
              .slotMismatch (some (.slot i)) x.cls.toNat))

/-- R104, R105: an order takes the place of the unsent one for its matter, else stands last; where the four tag
places are taken, the oldest order whose tag is not in use is dropped and counted first. -/
def Obligations.OrdersTakeTheirPlaces : Prop :=
  ∀ (s : State) (i : Slot) (o : Order),
    let p := s.port i
    let free (x : Order) : Bool := match x.matter with | .tag t => !s.tagInUse i t | .cut | .probe => false
    (∀ before old after, p.orders = before ++ old :: after → (∀ x ∈ before, x.matter ≠ o.matter) →
        old.matter = o.matter → s.order i o = s.setPort i { p with orders := before ++ o :: after })
    ∧ ((∀ x ∈ p.orders, x.matter ≠ o.matter) →
        if o.takesTagPlace = true ∧ 4 ≤ (p.orders.filter Order.takesTagPlace).length then
          ∀ before old after, p.orders = before ++ old :: after → (∀ x ∈ before, free x = false) → free old = true →
            s.order i o =
              s.setPort i { p with orders := before ++ after ++ [o], forwardDrops := countUp p.forwardDrops }
        else s.order i o = s.setPort i { p with orders := p.orders ++ [o] })

/-! ## The management commands -/

/-- R129, R130, R141, R165: a command is discarded whole while the part takes no frames; at a full answer queue it
is discarded; of the cached sequence it is answered again and not executed; otherwise it is executed, and its
ANSWER goes into the answer queue and the cache. -/
def Obligations.CommandsAreTakenOnce : Prop :=
  ∀ (s : State) (c : Instr) (q : Byte), commandSeq? c = some q → c.wellFormed = true →
    (s.active = false → exec c s = .next s)
    ∧ (s.active = true → Config.answerPlaces ≤ s.man.answers.length → exec c s = .next s.onSupply)
    ∧ (s.active = true → s.man.answers.length < Config.answerPlaces →
        ∀ a, s.man.cache = some a → a.seq = q →
          exec c s = .next { s.onSupply with man.answers := s.man.answers ++ [a] })
    ∧ (s.executes q → ∃ t outcome, exec c s = .next t
        ∧ t.man.answers = s.man.answers ++ [⟨q, outcome⟩] ∧ t.man.cache = some ⟨q, outcome⟩)

/-- R133, R134, R135, R182: QUERY_STATUS answers the 20 bytes of the STATUS record; READ_ENTRY answers BAD_TABLE,
BAD_INDEX, the empty mark, or the bytes of the entry, with the times remaining. Neither changes anything but by its
ANSWER. The model's choices: the bits a layout does not name are 0 (notes/assumptions/21.md), and so is the over-count
byte of an OFFERED contract (notes/assumptions/24.md). -/
def Obligations.ReadsAnswerTheirRecords : Prop :=
  ∀ (s : State) (q table index : Byte), s.executes q →
    let flag (b : Bool) (n : Nat) : Nat := if b = true then 2 ^ n else 0
    let left (d : Option Time) : Nat := match d with | some d => d - s.now | none => 0
    let cls (c : SlotClass) : Nat := match c with | .low => 0 | .normal => 1 | .high => 2 | .critical => 3
    let status : List Byte :=
      [byteOf (if s.part = .running then 1 else 0),
        byteOf (flag s.store.noImage 0 + flag s.bud.overcommit 1 + flag s.bud.watermark 2 + flag s.bud.stale 3
          + flag s.store.op.isSome 4 + flag s.pol.dirty 5),
        byteOf (match s.store.loadedPage with | some p => p.val | none => 255)]
        ++ bytes2 s.bud.effective ++ bytes2 s.bud.limit ++ bytes2 (min s.adm.committed 65535) ++ bytes2 s.eng.pledged
        ++ [byteOf s.adm.contracts.length, byteOf s.adm.queue.length] ++ bytes3 s.ntc.flags.toNat
        ++ bytes2 s.supply.framingErrors ++ bytes2 s.supply.crcErrors
    let granted (g : Grant) : Nat := flag g.leaseExpiry.isSome 2 + flag g.reportDeadline.isSome 3
    let contract (c : Contract) : List Byte := match c.state with
      | .offered d => [byteOf c.slot.val, c.tag, 0, 2] ++ bytes2 c.amount ++ [0, 0] ++ bytes2 (d - s.now)
          ++ [0, 0, 0, 0, 0, 0, 0, 0, 0]
      | .held g => [byteOf c.slot.val, c.tag, 1, byteOf (granted g)] ++ bytes2 c.amount ++ [0, 0, 0, 0, 0, 0]
          ++ bytes4 (left g.leaseExpiry) ++ bytes2 (left g.reportDeadline) ++ [byteOf g.overCount]
      | .shedding g sh => [byteOf c.slot.val, c.tag, 2, byteOf (1 + granted g + flag sh.forced 4)] ++ bytes2 c.amount
          ++ bytes2 sh.target ++ [0, 0] ++ bytes2 (sh.deadline - s.now) ++ bytes4 (left g.leaseExpiry)
          ++ bytes2 (left g.reportDeadline) ++ [byteOf g.overCount]
    let entry (e : QueueEntry) : List Byte :=
      [byteOf e.slot.val, e.tag, byteOf (cls (s.policy e.slot).cls), byteOf (flag e.waitDeadline.isSome 0)]
        ++ bytes2 e.want ++ bytes2 e.least ++ bytes4 (left e.waitDeadline) ++ [byteOf (flag e.reliefRequested 0)]
    let slot (p : SlotPort) : List Byte :=
      let declared : Byte × Nat := match p.declared with | some d => (d.cls, d.peak) | none => (0, 0)
      [match p.state with
          | .disabled => 0 | .vacant => 1 | .joining => 2 | .present => 3 | .penalty => 4 | .mismatch => 5,
        byteOf p.joinCount, byteOf p.missCount, byteOf (flag p.declared.isSome 0 + flag p.penaltyEnd.isSome 1), declared.1]
        ++ bytes2 declared.2 ++ bytes4 (left p.penaltyEnd) ++ bytes2 p.framingErrors ++ bytes2 p.crcErrors
        ++ bytes2 p.strayFrames ++ bytes2 p.forwardDrops
        ++ [byteOf p.orders.length, byteOf p.replies.length, byteOf p.downstream.length, byteOf (flag p.enable 0)]
    let record (p : Policy) : List Byte :=
      [byteOf (flag p.enabled 0), byteOf (cls p.cls), byteOf (flag p.preempt 0), byteOf p.shedRank]
        ++ bytes2 p.ceiling ++ bytes2 p.floor ++ bytes2 p.step ++ [byteOf p.maxContracts] ++ bytes2 p.lease
        ++ bytes2 p.waitLimit ++ bytes2 p.shedWindow ++ bytes2 p.reportInterval
        ++ [byteOf p.tolerance, byteOf p.debounce, match p.action with | .notify => 0 | .cut => 1]
        ++ bytes2 p.penaltyHold ++ [p.requiredClass, byteOf (flag p.forward 0)]
    let items := s.pol.items
    let config : List Byte :=
      bytes2 items.budgetCap ++ bytes2 items.safeBudget ++ bytes2 items.reserve ++ bytes2 items.staleTimeout
        ++ bytes2 items.highMark ++ bytes2 items.lowMark ++ bytes2 items.acceptWindow ++ bytes2 items.probeInterval
        ++ bytes3 items.eventMask.toNat
    let page (p : Page) : List Byte := match p with
      | .blank => [0, 0, 0, 0, 0]
      | .valid img => 1 :: bytes4 img.generation
      | .damaged => [2, 0, 0, 0, 0]
    let read (outcome : Settle) : Prop := exec (.readEntry q table index) s = .next (s.onSupply.settled q outcome)
    let n := index.toNat
    exec (.queryStatus q) s = .next (s.onSupply.settled q (.ack status)) ∧ status.length = 20
    ∧ match table.toNat with
      | 1 => if 24 ≤ n then read (.nak .badIndex) else match s.adm.contracts[n]? with
        | none => read (.ack [1])
        | some c => read (.ack (0 :: contract c)) ∧ (contract c).length = 19
      | 2 => if 16 ≤ n then read (.nak .badIndex) else match s.adm.queue[n]? with
        | none => read (.ack [1])
        | some e => read (.ack (0 :: entry e)) ∧ (entry e).length = 13
      | 3 => if h : n < 8 then read (.ack (0 :: slot (s.port ⟨n, h⟩))) ∧ (slot (s.port ⟨n, h⟩)).length = 23 else read (.nak .badIndex)
      | 4 => if h : n < 8 then read (.ack (0 :: record (s.policy ⟨n, h⟩))) else read (.nak .badIndex)
      | 5 => if h : n < 8 then read (.ack (0 :: record (s.pol.shadow.get ⟨n, h⟩))) else read (.nak .badIndex)
      | 6 => if n = 0 then read (.ack (0 :: config)) ∧ config.length = 19 else read (.nak .badIndex)
      | 7 => if h : n < 8 then read (.ack (0 :: page (s.page ⟨n, h⟩))) else read (.nak .badIndex)
      | _ => read (.nak .badTable)

/-- R114, R115: WRITE_POLICY replaces one slot's record in the shadow copy and sets the dirty flag, unless the
slot is above 7 or the record is no valid one; DISCARD makes the shadow copy the active one again and clears the
flag. -/
def Obligations.ShadowCopyIsWritten : Prop :=
  ∀ (s : State) (q slot : Byte) (record : List Byte), s.executes q →
    let u := s.onSupply
    let wrote (t : State) : Prop := exec (.writePolicy q slot record) s = .next t
    exec (.discard q) s =
      .next (({ u with pol.shadow := s.pol.active, pol.dirty := false } : State).settled q (.ack []))
    ∧ (record.length = 26 →
        if h : slot.toNat < 8 then
          (∀ p, Policy.ofBytes? record = some p →
            wrote (({ u with pol.shadow := s.pol.shadow.set slot.toNat p, pol.dirty := true } : State).settled q (.ack [])))
          ∧ (Policy.ofBytes? record = none → wrote (u.settled q (.nak .badValue)))
        else wrote (u.settled q (.nak .badSlot)))

/-- R51, R123, R125, R132: SET_CONFIG checks the item, its value and the marks in order, and takes effect at once:
the budget items work out the figures and ask for a pass on a rise of the limit and then a NORMAL round, the marks
re-evaluate the watermark flag, the others are read when next used; EVENT_MASK takes exactly the kinds named. -/
def Obligations.ConfigItemsTakeEffect : Prop :=
  ∀ (s : State) (q item hi lo count : Byte) (kinds : List Byte), s.executes q →
    let u := s.onSupply
    let v := hi.toNat * 256 + lo.toNat
    let set (t : State) : Prop := exec (.setConfig q item [hi, lo]) s = .next t
    let mask (t : State) : Prop := exec (.setConfig q 9 (count :: kinds)) s = .next t
    (item.toNat = 0 ∨ 9 < item.toNat → set (u.settled q (.nak .badIndex)))
    ∧ (∀ k, ConfigItem.ofCode? item.toNat = some k → k ≠ .eventMask →
        let put : State := { u with pol.items := s.pol.items.put k v }
        let worked := recompute put
        if k.inRange v = false ∨ k.marksOk s.pol.items v = false then set (u.settled q (.nak .badValue))
        else match k with
          | .budgetCap | .safeBudget | .reserve =>
            set ((budgetRound .normal (if s.bud.limit < worked.bud.limit then runPass worked else worked)).settled q (.ack []))
          | .highMark | .lowMark =>
            set ((evalWatermark
              { put with
                bud.highMark := s.bud.limit * put.pol.items.highMark / 100
                bud.lowMark := s.bud.limit * put.pol.items.lowMark / 100 }).settled q (.ack []))
          | .staleTimeout | .acceptWindow | .probeInterval | .eventMask => set (put.settled q (.ack [])))
    ∧ (kinds.length ≤ 30 →
        if 18 < count.toNat ∨ count.toNat ≠ kinds.length then mask (u.settled q (.nak .malformed))
        else if ∃ k ∈ kinds, 18 ≤ k.toNat then mask (u.settled q (.nak .badValue))
        else ∃ m : KindSet, (∀ n, n < 18 → m.getLsbD n = namedBy kinds n)
          ∧ mask (({ u with pol.items.eventMask := m } : State).settled q (.ack [])))

/-- R132, R136: CLEAR_EVENTS is MALFORMED where its count is above 18 or does not agree with its list, BAD_VALUE
where a code names no kind, and otherwise clears exactly the flags named. -/
def Obligations.EventFlagsAreCleared : Prop :=
  ∀ (s : State) (q count : Byte) (kinds : List Byte), s.executes q → kinds.length ≤ 31 →
    let gives (t : State) : Prop := exec (.clearEvents q count kinds) s = .next t
    if 18 < count.toNat ∨ count.toNat ≠ kinds.length then gives (s.onSupply.settled q (.nak .malformed))
    else if ∃ k ∈ kinds, 18 ≤ k.toNat then gives (s.onSupply.settled q (.nak .badValue))
    else ∃ f : KindSet, (∀ n, n < 18 → f.getLsbD n = (s.ntc.flags.getLsbD n && !namedBy kinds n))
      ∧ gives (({ s.onSupply with ntc.flags := f } : State).settled q (.ack []))

/-- R117, R118: a COMMIT with the dirty flag clear changes nothing; otherwise the shadow copy becomes active and
the stages follow in order: slots, contracts, queue, one re-evaluation of the flags, one pass, one NORMAL round.
R74, R119: a contract of a PRESENT slot above the new ceiling is removed with CLOSED(POLICY) where it is OFFERED, and
shed where it is HELD, to the new ceiling rounded down to the new step or the new floor where that is larger; a
SHEDDING one is left alone. R41: a queued claim of a PRESENT slot whose least exceeds the new ceiling leaves with
REFUSE(POLICY). R28, R40: the queue is rebuilt from the same entries, sorted by the present classes and, within a
class, by arrival. -/
def Obligations.CommitRunsItsStages : Prop :=
  (∀ s : State, (s.adm.queue.map QueueEntry.key).Nodup → s.adm.arrival.Perm (s.adm.queue.map QueueEntry.key) →
    s.rebuildQueue.adm.queue.Perm s.adm.queue
      ∧ s.rebuildQueue.adm.queue.Pairwise fun a b => s.servedBefore a b = true)
  ∧ (∀ (s : State) (c : Contract), s.contract? c.slot c.tag = some c →
    let p := s.policy c.slot
    let rest := s.adm.contracts.eraseP (Contract.isOf c.slot c.tag)
    let target := max (roundDown p.step p.ceiling) p.floor
    checkCeiling c s =
      if (s.port c.slot).state = .present ∧ p.ceiling < c.amount then
        match c.state with
        | .offered _ =>
          ({ s with
            adm.contracts := rest
            adm.committed := s.adm.committed - c.amount
            ports := s.ports.set c.slot
              { s.port c.slot with enable := rest.any fun d => d.slot == c.slot && d.granted } } : State).order
            c.slot (.closed c.tag .policy)
        | .held g =>
          ({ s with
            adm.contracts := modifyFirst (Contract.isOf c.slot c.tag)
              (fun c => { c with state := .shedding g ⟨target, s.now + p.shedWindow, false⟩ }) s.adm.contracts
            eng.pledged := s.eng.pledged + (c.amount - target) } : State).order
            c.slot (.shed c.tag target p.shedWindow)
        | .shedding _ _ => s
      else s)
  ∧ (∀ (s : State) (e : QueueEntry),
    checkEntry e s =
      if (s.port e.slot).state = .present ∧ (s.policy e.slot).ceiling < e.least then
        { s with
          adm.queue := s.adm.queue.eraseP (QueueEntry.isOf e.slot e.tag)
          adm.arrival := s.adm.arrival.erase (e.slot, e.tag)
          eng.record := s.eng.record.filter fun r => !(r.slot == e.slot && r.tag == e.tag)
          ports := s.ports.set e.slot ((s.port e.slot).withAnswer (.refuse e.tag .policy)) }
      else s)
  ∧ ∀ (s : State) (q : Byte), s.executes q →
    let swapped : State := { s.onSupply with pol.active := s.pol.shadow, pol.dirty := false }
    let aligned := allSlots.foldl (fun u i => alignSlot (s.policy i) i u) swapped
    let checked := aligned.adm.contracts.foldl (fun u c => checkCeiling c u) aligned
    let queued := (checked.adm.queue.foldl (fun u e => checkEntry e u) checked).rebuildQueue
    exec (.commit q) s =
      .next (if s.pol.dirty = true then (budgetRound .normal (runPass (evalFlags queued))).settled q (.ack [])
        else s.onSupply.settled q (.ack []))

/-- R95, R118: what a commit does with one slot, by its old and new record: it closes and disables it, opens it,
or moves it between PRESENT and MISMATCH with the event of that entry; any other slot it leaves as it is. R24, R41: a
closing places CLOSED(POLICY) for every contract in table order, then REFUSE(POLICY) for every claim in service order,
and then the slot is torn down. That the receiver of a slot which becomes DISABLED hunts is the model's reading
(notes/assumptions/17.md). -/
def Obligations.CommitAlignsASlot : Prop :=
  ∀ (s : State) (i : Slot) (old : Policy),
    let new := s.policy i
    let p := s.port i
    let told := (s.contractsOf i).foldl (fun u c => u.order i (.closed c.tag .policy)) s
    let closed : State :=
      { told with
        adm.contracts := s.adm.contracts.filter (·.slot != i)
        adm.queue := s.adm.queue.filter (·.slot != i)
        adm.arrival := s.adm.arrival.filter (·.1 != i)
        adm.committed := s.adm.committed - totalAmount (s.contractsOf i)
        eng.pledged := s.eng.pledged - totalRelief (s.contractsOf i)
        eng.record := s.eng.record.filter (·.slot != i)
        ports := told.ports.set i
          { (s.claimsOf i).foldl (fun p e => p.withAnswer (.refuse e.tag .policy)) (told.port i) with enable := false } }
    let takes := new.requiredClass = 0 ∨ ∃ d ∈ p.declared, d.cls = new.requiredClass
    let detail : Nat := match p.declared with | some d => d.cls.toNat | none => 0
    let off (q : SlotPort) : SlotPort :=
      { q with
        state := .disabled, probeDeadline := none, answerDeadline := none, penaltyEnd := none, joinCount := 0,
        missCount := 0, declared := none, receiver := huntingReceiver, enable := false }
    alignSlot old i s =
      if old.enabled = true ∧ new.enabled = false then
        if p.state = .present then closed.setPort i (off (closed.port i)) else s.setPort i (off p)
      else if old.enabled = false ∧ new.enabled = true ∧ p.state = .disabled then
        s.setPort i
          { p with
            state := .vacant, joinCount := 0, missCount := 0, declared := none, answerDeadline := none,
            penaltyEnd := none, probeDeadline := some (s.now + s.pol.items.probeInterval), enable := false }
      else if old.enabled = true ∧ new.enabled = true ∧ p.state = .present ∧ old.requiredClass ≠ new.requiredClass
          ∧ ¬ takes then
        (closed.setPort i { closed.port i with state := .mismatch, enable := false }).raise
          .slotMismatch (some (.slot i)) detail
      else if old.enabled = true ∧ new.enabled = true ∧ p.state = .mismatch ∧ takes then
        (s.setPort i { p with state := .present, enable := s.holdsGrant i }).raise .slotJoined (some (.slot i)) detail
      else s

/-- R62, R72, R73, R137, R139: FORCE_SHED sheds a HELD contract above the target with the forced mark, FORCE_CLOSE
closes a contract in any state, FORCE_CUT cuts a PRESENT slot; each NAKs in its order of checks. -/
def Obligations.ForcedCommandsAct : Prop :=
  ∀ (s : State) (q slot tag : Byte) (target : Half), s.executes q →
    let u := s.onSupply
    let shed (t : State) : Prop := exec (.forceShed q slot tag target) s = .next t
    let close (t : State) : Prop := exec (.forceClose q slot tag) s = .next t
    let cut (t : State) : Prop := exec (.forceCut q slot) s = .next t
    if h : slot.toNat < 8 then
      let i : Slot := ⟨slot.toNat, h⟩
      (match s.contract? i tag with
        | none => shed (u.settled q (.nak .noContract)) ∧ close (u.settled q (.nak .noContract))
        | some c =>
          let closed := runPass ((u.closeContract i tag).order i (.closed tag .forced))
          let window := (s.policy i).shedWindow
          close ((if c.isShedding = true then budgetRound .normal closed else closed).settled q (.ack []))
          ∧ match c.state with
            | .held g =>
              if c.amount ≤ target.toNat then shed (u.settled q (.nak .badValue))
              else shed ((({ u with
                  adm.contracts := modifyFirst (Contract.isOf i tag)
                    (fun c => { c with state := .shedding g ⟨target.toNat, s.now + window, true⟩ }) s.adm.contracts
                  eng.pledged := s.eng.pledged + (c.amount - target.toNat) } : State).order i
                    (.shed tag target.toNat window)).settled q (.ack []))
            | .offered _ | .shedding _ _ => shed (u.settled q (.nak .wrongState)))
      ∧ (if (s.port i).state = .present then cut ((cutAndFollow i .forced u).settled q (.ack []))
        else cut (u.settled q (.nak .wrongState)))
    else shed (u.settled q (.nak .badSlot)) ∧ close (u.settled q (.nak .badSlot)) ∧ cut (u.settled q (.nak .badSlot))

/-- R109, R140: PORT_RESET tears the slot down, with the pass and the re-check that this calls for, empties its
queues, zeroes its counts, and makes an enabled slot VACANT; no event is raised for the slot. -/
def Obligations.PortResetClearsASlot : Prop :=
  ∀ (s : State) (q slot : Byte), s.executes q →
    if h : slot.toNat < 8 then
      let i : Slot := ⟨slot.toNat, h⟩
      let off := s.onSupply.setPort i { s.port i with enable := false }
      let torn := if s.heldBy i = 0 then off.teardown i
        else if s.sheds i = true then budgetRound .normal (runPass (off.teardown i))
        else runPass (off.teardown i)
      let cleared : SlotPort :=
        { torn.port i with
          orders := [], replies := [], downstream := [], receiver := huntingReceiver, framingErrors := 0,
          crcErrors := 0, strayFrames := 0, forwardDrops := 0, penaltyEnd := none }
      exec (.portReset q slot) s =
        .next ((torn.setPort i (if (s.policy i).enabled = true then
            { cleared with
              state := .vacant, joinCount := 0, missCount := 0, declared := none, answerDeadline := none,
              probeDeadline := some (s.now + s.pol.items.probeInterval), enable := false }
          else cleared)).settled q (.ack []))
    else exec (.portReset q slot) s = .next (s.onSupply.settled q (.nak .badSlot))

/-- R143, R159, R160, R162: the store commands check the page number and the operation in progress, then the page;
an accepted one becomes the operation in progress, a save with the image captured then, one generation above every
page and closed by the check over its contents (R156; a free value, notes/assumptions/22.md). -/
def Obligations.StoreCommandsStart : Prop :=
  ∀ (s : State) (q page : Byte), s.executes q →
    let gives (c : Instr) (t : State) : Prop := exec c s = .next t
    let all (r : NakReason) : Prop :=
      gives (.storeErase q page) (s.onSupply.settled q (.nak r)) ∧ gives (.storeSave q page) (s.onSupply.settled q (.nak r))
        ∧ gives (.storeLoad q page) (s.onSupply.settled q (.nak r))
    let start (op : StoreOp) : State := ({ s.onSupply with store.op := some op } : State).settled q (.ack [])
    let nak (r : NakReason) : State := s.onSupply.settled q (.nak r)
    let image (g : Nat) : Image := ⟨s.pol.active, s.pol.items, g, Config.imageCheck s.pol.active s.pol.items g⟩
    if h : page.toNat < 8 then
      let p : Slot := ⟨page.toNat, h⟩
      if s.store.op.isSome = true then all .busy
      else
        gives (.storeErase q page) (if page = 0 then nak .isProtected else start (.erase p))
        ∧ (∀ img, s.page p = .valid img → gives (.storeLoad q page) (start (.load p)))
        ∧ ((s.page p).generation? = none → gives (.storeLoad q page) (nak .notValid))
        ∧ (page = 0 → gives (.storeSave q page) (nak .isProtected))
        ∧ (page ≠ 0 → s.page p ≠ .blank → gives (.storeSave q page) (nak .notBlank))
        ∧ (page ≠ 0 → s.page p = .blank →
            ∀ g, (∀ r x, (s.page r).generation? = some x → x ≤ g) →
              ((∃ r, (s.page r).generation? = some g) →
                gives (.storeSave q page)
                  (if g = 0xFFFFFFFF then nak .exhausted else start (.save p (image (g + 1)))))
              ∧ ((∀ r, (s.page r).generation? = none) →
                gives (.storeSave q page) (start (.save p (image 1)))))
    else all .badIndex

/-- R51, R116, R159, R161, R162: an erase leaves its page BLANK; a save leaves it VALID with the captured image where
it reads back so and the image's check agrees with its contents, and DAMAGED otherwise; a load replaces the shadow
copy and the live items, with what a configuration change asks for; the operation ends, and STORE_DONE or STORE_FAILED
is raised with the page. That what a page reads back as is an operand is the model's choice (notes/assumptions/5.md).
-/
def Obligations.StoreOperationsComplete : Prop :=
  ∀ (s : State) (p : Slot),
    let ended (page : Page) (k : EventKind) : State :=
      ({ s with store.op := none, store.pages := s.store.pages.set p page } : State).raise k none p.val
    let intact (img : Image) : Prop := img.check = Config.imageCheck img.policies img.items img.generation
    (s.store.op = some (.erase p) → exec .storeEraseCompletion s = .next (ended .blank .storeDone))
    ∧ (∀ img, s.store.op = some (.save p img) →
        (intact img → exec (.storeSaveCompletion true) s = .next (ended (.valid img) .storeDone))
          ∧ (¬ intact img → exec (.storeSaveCompletion true) s = .next (ended .damaged .storeFailed))
          ∧ exec (.storeSaveCompletion false) s = .next (ended .damaged .storeFailed))
    ∧ (∀ img, s.store.op = some (.load p) → s.page p = .valid img →
        let worked := recompute { s with pol.shadow := img.policies, pol.dirty := true, pol.items := img.items }
        let placed := budgetRound .normal (if s.bud.limit < worked.bud.limit then runPass worked else worked)
        exec .storeLoadCompletion s = .next (({ placed with store.op := none } : State).raise .storeDone none p.val))

/-! ## Restart and start-up -/

/-- R141, R163, R165: RESTART is accepted while no store operation runs; it takes effect once its ACK and every
transmission are out, as a hard reset does: every block at its reset values, the page of an interrupted erase or
save DAMAGED, and a VALID page that is not intact DAMAGED. The model's choices: the time base goes on
(notes/assumptions/2.md) and so do the waiting commands (14.md); the budget figures of StartsClean are 0 (3.md); the
scan's marking stands in the reset's step, and what a page reads back as is an operand (5.md). Its reading: a restart
that is not due changes nothing (9.md). -/
def Obligations.RestartAndHardReset : Prop :=
  ∀ (s : State) (q : Byte) (straps : BitVec 2) (asWritten : BitVec 8),
    let idle : Prop := s.man.restartWait = true ∧ s.man.answers = [] ∧ s.supply.transmission = none
      ∧ ∀ i, (s.port i).transmission = none
    (s.executes q →
      exec (.restart q) s =
        .next (if s.store.op.isSome = true then s.onSupply.settled q (.nak .busy)
          else ({ s.onSupply with man.restartWait := true } : State).settled q (.ack [])))
    ∧ (¬ idle → exec (.restartTakesEffect straps asWritten) s = .next s)
    ∧ ∃ t, exec (.hardReset straps asWritten) s = .next t
      ∧ (idle → exec (.restartTakesEffect straps asWritten) s = .next t)
      ∧ t.part = .starting ∧ t.straps = straps ∧ t.now = s.now ∧ t.pending = s.pending ∧ t.StartsClean
      ∧ t.store.noImage = s.store.noImage ∧ t.store.loadedPage = s.store.loadedPage
      ∧ ∀ p : Slot,
          let struck := s.store.op = some (.erase p) ∨ ∃ img, s.store.op = some (.save p img)
          (struck → t.page p = .damaged)
          ∧ (¬ struck → t.page p = match s.page p with
              | .valid img =>
                if asWritten.getLsbD p.val = true ∧ img.check = Config.imageCheck img.policies img.items img.generation then
                  .valid img
                else .damaged
              | .blank => .blank
              | .damaged => .damaged)

/-- R56, R126, R165, R166: at the end of the scan the VALID page of the greatest generation, or without one the
built-in defaults, gives both copies and the items; the figures come from SAFE_BUDGET without an event; the part
is RUNNING, each enabled slot VACANT with its first PROBE one interval later, and RESTARTED is raised. -/
def Obligations.ScanEndStartsThePart : Prop :=
  ∀ (s : State), s.part = .starting → s.StartsClean → s.StoreHolds →
    let opened (items : LiveItems) (records : Vector Policy 8) (i : Slot) : SlotPort :=
      if (records.get i).enabled = true then
        { Sys2Proof.Machine.resetPort with state := .vacant, probeDeadline := some (s.now + items.probeInterval) }
      else Sys2Proof.Machine.resetPort
    let starts (records : Vector Policy 8) (items : LiveItems) (page : Option Slot) (t : State) : Prop :=
      let effective := min items.budgetCap items.safeBudget
      let limit := effective - items.reserve
      t.part = .running ∧ t.pol = ⟨records, records, false, items⟩ ∧ t.store.noImage = page.isNone
        ∧ t.store.loadedPage = page ∧ t.store.pages = s.store.pages ∧ t.store.op = none
        ∧ t.bud = ⟨none, none, none, true, effective, limit, limit * items.highMark / 100, limit * items.lowMark / 100,
            false, decide (limit * items.highMark / 100 = 0 ∧ 0 < limit)⟩
        ∧ (∀ i, t.port i = opened items records i)
        ∧ t.ntc = s.ntc.raise items.eventMask .restarted none (match page with | some p => p.val | none => 65535)
        ∧ t.adm = s.adm ∧ t.eng = s.eng ∧ t.man = s.man ∧ t.supply = s.supply ∧ t.forward = s.forward
        ∧ t.now = s.now ∧ t.pending = s.pending ∧ t.straps = s.straps
    (∀ p img, s.page p = .valid img →
        (∀ r g, (s.page r).generation? = some g → g ≤ img.generation) →
        ∃ t, exec .startUpScanEnd s = .next t ∧ starts img.policies img.items (some p) t)
    ∧ ((∀ p, (s.page p).generation? = none) →
        ∃ t, exec .startUpScanEnd s = .next t
          ∧ starts (Vector.replicate 8 { factoryPolicy with enabled := false }) defaultItems none t)

/-! ## Events and notices -/

/-- R146 to R152: an event sets its flag, and its notice, unless masked, merges into the WAITING record of its
key, or stands last in a general place, SENT at once in an empty queue; without a place it is lost, and
NOTICE_LOST tells its kind, merged, in the reserved place, or not at all. -/
def Obligations.EventsBecomeNotices : Prop :=
  ∀ (s : State) (k : EventKind) (o : Option Origin) (d : Nat), s.NoticesOrdered →
    let mask := s.pol.items.eventMask
    let flags := addKind s.ntc.flags k
    let lostFlags := addKind flags .noticeLost
    let queue := s.ntc.queue
    let merged (k : EventKind) (o : Option Origin) (d : Nat) : List Notice :=
      modifyFirst (Notice.waitsFor k o) (fun n => { n with count := min (n.count + 1) 255, detail := d }) queue
    let gives (u : NoticeUnit) : Prop := s.raise k o d = { s with ntc := u }
    if hasKind mask k = true then gives { s.ntc with flags := flags }
    else if queue.any (Notice.waitsFor k o) = true then gives { s.ntc with flags := flags, queue := merged k o d }
    else if (queue.filter (!·.reserved)).length < 31 then
      gives ⟨flags, queue ++ [⟨s.ntc.nextSeq, k, o, 1, d, false, if queue = [] then .sent 0 .offered else .waiting⟩],
        s.ntc.nextSeq + 1⟩
    else if hasKind mask .noticeLost = true then gives { s.ntc with flags := lostFlags }
    else if queue.any (Notice.waitsFor .noticeLost none) = true then
      gives { s.ntc with flags := lostFlags, queue := merged .noticeLost none k.code }
    else if queue.any (·.reserved) = true then gives { s.ntc with flags := lostFlags }
    else gives ⟨lostFlags, queue ++ [⟨s.ntc.nextSeq, .noticeLost, none, 1, k.code, true, .waiting⟩], s.ntc.nextSeq + 1⟩

/-- R152, R153, R154: a NOTICE_ACK of the SENT record's seq removes it, and the oldest WAITING record becomes
SENT; of another seq, or with no record in the queue, it has no effect. A retransmit deadline offers the record again,
and after its fourth transmission gives it up with NOTICE_LOST before the next becomes SENT. An expiry is taken at its
deadline at the earliest (the model's choice, notes/assumptions/2.md). -/
def Obligations.NoticesAreAcknowledgedOrGivenUp : Prop :=
  ∀ (s : State) (ack : Byte), s.active = true → s.NoticesOrdered →
    (s.ntc.queue = [] → exec (.noticeAck ack) s = .next s.onSupply)
    ∧ ∀ n rest, s.ntc.queue = n :: rest →
      exec (.noticeAck ack) s =
        .next (if n.seq = ack then { s.onSupply with ntc.queue := nextSent rest } else s.onSupply)
      ∧ ∀ sends d, n.state = .sent sends (.awaiting d) →
          let u : State := { s with now := max s.now d }
          let left : NoticeUnit := ⟨s.ntc.flags, rest, s.ntc.nextSeq⟩
          let lost := left.raiseLost s.pol.items.eventMask n.kind
          (sends < 4 → exec .retransmitDeadline s =
            .next { u with ntc.queue := { n with state := .sent sends .offered } :: rest })
          ∧ (4 ≤ sends → exec .retransmitDeadline s =
            .next { u with ntc := { lost with queue := nextSent lost.queue } })

/-! ## Traffic and links -/

/-- R169 to R172: DATA and DATA_DOWN of a slot that is PRESENT or PENALTY and relays stand last in their queue
while it has a place; any other is dropped, counted and told by FORWARD_DROP. A DATA_DOWN for no slot is a framing
error. -/
def Obligations.TrafficIsRelayedOrDropped : Prop :=
  ∀ (s : State) (i : Slot) (seq slot : Byte) (payload : List Byte), payload.length ≤ 31 →
    let dropped (u : State) (p : SlotPort) : State :=
      (u.setPort i { p with forwardDrops := countUp p.forwardDrops }).raise
        .forwardDrop (some (.slot i)) (countUp p.forwardDrops)
    let p := s.port i
    (s.hands i →
      (s.relayed i ∧ s.forward.length < 32 →
        exec (.data i seq payload) s = .next { s.onHearing i with forward := s.forward ++ [⟨i, seq, payload⟩] })
      ∧ (¬ (s.relayed i ∧ s.forward.length < 32) → exec (.data i seq payload) s = .next (dropped s (s.heard i))))
    ∧ (s.active = true → slot.toNat = i.val →
      (s.relayed i ∧ p.downstream.length < 4 →
        exec (.dataDown seq slot payload) s =
          .next (s.onSupply.setPort i { p with downstream := p.downstream ++ [⟨seq, payload⟩] }))
      ∧ (¬ (s.relayed i ∧ p.downstream.length < 4) →
        exec (.dataDown seq slot payload) s = .next (dropped s.onSupply p)))
    ∧ (s.active = true → 8 ≤ slot.toNat →
        exec (.dataDown seq slot payload) s = .next (s.withError .supply .framing))

/-- R176 to R179: what becomes of every complete frame. Other CRC bytes than the CRC's are a CRC error; a destination
that is not the part's is ignored, but for a BUDGET to 0xFF; a kind or a payload length that the link does not take,
and then a source that the kind does not have, is a framing error; any other frame does what the row of its command
does. A LEN below 4 or above 36 and a gap are framing errors, and each error is counted on its link and told by
LINK_ERRORS. A hunting receiver ignores any byte but SYNC, which begins a frame, and bytes in two runs do what they do
in one. That an expiry is taken at its deadline at the earliest, and that the row carries the bytes that arrive, are
the model's choices (notes/assumptions/2.md, 7.md). -/
def Obligations.ReceiveErrorsAreCounted : Prop :=
  crc16 [0x31, 0x32, 0x33, 0x34, 0x35, 0x36, 0x37, 0x38, 0x39] = 0x29B1
  ∧ ∀ (s : State) (link : Link) (dst src kind seq c1 c0 b : Byte) (payload first second : List Byte),
    s.active = true → (∀ i, link = .slot i → (s.port i).state ≠ .disabled) → payload.length ≤ 32 →
    let r := s.receiver link
    let body : List Byte := byteOf (payload.length + 4) :: dst :: src :: kind :: seq :: payload
    let crc : List Byte := bytes2 (crc16 body).toNat
    let arrives (bytes : List Byte) : Host.Outcome State Fault Refusal := exec (.frameReceiveError link bytes) s
    let framing : Host.Outcome State Fault Refusal := .next (s.withError link .framing)
    let addressed : Prop := match link with
      | .slot _ => dst = 0x00
      | .supply => dst = 0x30 + s.straps.zeroExtend 8 ∨ (dst = 0xFF ∧ kind = 0x40)
    let source : Byte := match link with
      | .slot _ => 0x80
      | .supply => if kind = 0x40 then 0x01 else 0x02
    let command : Option Instr := match link with
      | .slot i => match kind.toNat, payload with
        | 0x10, [cls, p1, p0] => some (.present i cls (p1 ++ p0))
        | 0x11, [tag, w1, w0, l1, l0] => some (.claim i tag (w1 ++ w0) (l1 ++ l0))
        | 0x12, [tag] => some (.accept i tag)
        | 0x13, [tag] => some (.decline i tag)
        | 0x14, [tag] => some (.release i tag)
        | 0x15, [tag] => some (.renew i tag)
        | 0x16, [tag, a1, a0] => some (.adjust i tag (a1 ++ a0))
        | 0x17, [tag, m1, m0] => some (.report i tag (m1 ++ m0))
        | 0x18, [tag] => some (.comply i tag)
        | 0x1F, bytes => if bytes.length ≤ 31 then some (.data i seq bytes) else none
        | _, _ => none
      | .supply => match kind.toNat, payload with
        | 0x40, [b1, b0, u] =>
          if u = 0 then some (.budget seq (b1 ++ b0) .normal)
          else if u = 1 then some (.budget seq (b1 ++ b0) .immediate) else none
        | 0x50, [] => some (.queryStatus seq)
        | 0x51, [table, index] => some (.readEntry seq table index)
        | 0x52, slot :: record => if record.length = 26 then some (.writePolicy seq slot record) else none
        | 0x53, [] => some (.commit seq)
        | 0x54, [] => some (.discard seq)
        | 0x55, item :: rest =>
          if (item = 9 ∧ 1 ≤ rest.length ∧ rest.length ≤ 31) ∨ (item ≠ 9 ∧ rest.length = 2) then
            some (.setConfig seq item rest)
          else none
        | 0x56, count :: kinds => if kinds.length ≤ 31 then some (.clearEvents seq count kinds) else none
        | 0x57, [slot, tag, t1, t0] => some (.forceShed seq slot tag (t1 ++ t0))
        | 0x58, [slot, tag] => some (.forceClose seq slot tag)
        | 0x59, [slot] => some (.forceCut seq slot)
        | 0x5A, [slot] => some (.portReset seq slot)
        | 0x5B, [page] => some (.storeErase seq page)
        | 0x5C, [page] => some (.storeSave seq page)
        | 0x5D, [page] => some (.storeLoad seq page)
        | 0x5E, [] => some (.restart seq)
        | 0x5F, [ack] => some (.noticeAck ack)
        | 0x60, slot :: rest => if rest.length ≤ 31 then some (.dataDown seq slot rest) else none
        | _, _ => none
    (r.bytes = [] →
      ([c1, c0] ≠ crc → arrives (0xC3 :: (body ++ [c1, c0])) = .next (s.withError link .crc))
      ∧ (¬ addressed → arrives (0xC3 :: (body ++ crc)) = .next (s.hunt link))
      ∧ (addressed → arrives (0xC3 :: (body ++ crc)) = match command with
          | none => framing
          | some c => if src = source then exec c s else framing)
      ∧ (b.toNat < 4 ∨ 36 < b.toNat → arrives [0xC3, b] = framing)
      ∧ (b ≠ 0xC3 → arrives [b] = .next (s.hunt link))
      ∧ arrives [0xC3] = .next (s.setReceiver link ⟨[0xC3], some (s.now + 1)⟩))
    ∧ (∃ t, arrives first = .next t ∧ arrives (first ++ second) = exec (.frameReceiveError link second) t)
    ∧ ∀ d, r.gapDeadline = some d →
        exec (.byteGapTimeout link) s = .next (({ s with now := max s.now d } : State).withError link .framing)

/-- R108, R141, R180: an idle slot transmitter takes the first frame of the order list, then of the reply queue,
then of the downstream data queue, and sends its bytes; none begins in a restart wait; after the last bit it is
idle. The bytes are those of 12 "The frame", with the codes of 12 "Kind codes" and "Reason and other codes" and the
payloads of 12 "Payloads of the central kinds". -/
def Obligations.SlotLinkSendsInPrecedence : Prop :=
  ∀ (s : State) (i : Slot),
    let p := s.port i
    let gives (t : State) : Prop := exec (.slotTransmissionBegin i) s = .next t
    let two (n : Nat) : List Byte := [byteOf (n / 256), byteOf n]
    let frame (kind seq : Byte) (payload : List Byte) : List Byte :=
      let body : List Byte := byteOf (payload.length + 4) :: 0x80 :: 0x00 :: kind :: seq :: payload
      0xC3 :: (body ++ two (crc16 body).toNat)
    let refused (r : RefuseReason) : Byte := match r with
      | .notReady => 1 | .penalty => 2 | .mismatch => 3 | .malformed => 4 | .tagInUse => 5 | .slotLimit => 6
      | .beyondDeclared => 7 | .ceiling => 8 | .queueFull => 9 | .displaced => 10 | .waitLimit => 11 | .policy => 12
      | .stale => 13 | .noRoom => 14 | .wrongState => 15 | .unknownTag => 16
    let closed (r : ClosedReason) : Byte := match r with
      | .released => 1 | .declined => 2 | .acceptTimeout => 3 | .leaseExpired => 4 | .withdrawn => 5 | .policy => 6
      | .forced => 7
    let cut (r : CutReason) : Byte := match r with
      | .shedFailed => 1 | .overdraw => 2 | .silence => 3 | .immediate => 4 | .forced => 5
    let order (o : Order) : List Byte := match o with
      | .probe => frame 0x20 0 []
      | .offer tag amount lease => frame 0x21 0 (tag :: (two amount ++ two lease))
      | .shed tag target window => frame 0x25 0 (tag :: (two target ++ two window))
      | .closed tag reason => frame 0x26 0 [tag, closed reason]
      | .cut reason => frame 0x27 0 [cut reason]
    let reply (r : Reply) : List Byte := match r with
      | .queued tag position => frame 0x22 0 [tag, byteOf position]
      | .granted tag amount => frame 0x23 0 (tag :: two amount)
      | .refuse tag reason => frame 0x24 0 [tag, refused reason]
      | .closed tag reason => frame 0x26 0 [tag, closed reason]
    exec (.slotTransmissionSent i) s = .next (s.setPort i { p with transmission := none })
    ∧ (p.transmission ≠ none → gives s)
    ∧ (s.man.restartWait = true → gives s)
    ∧ (s.active = true → p.transmission = none →
        match p.orders, p.replies, p.downstream with
        | o :: rest, _, _ =>
          gives (s.setPort i { p with orders := rest, transmission := some ⟨.order o, order o⟩ })
        | [], r :: rest, _ =>
          gives (s.setPort i { p with replies := rest, transmission := some ⟨.reply r, reply r⟩ })
        | [], [], d :: rest =>
          gives (s.setPort i { p with downstream := rest, transmission := some ⟨.data d, frame 0x1F d.seq d.payload⟩ })
        | [], [], [] => gives s)

/-- R132, R141, R152, R153, R173: the idle upstream transmitter takes the first ANSWER, else the SENT notice while
it is offered, else the first DATA_UP, and in a restart wait only answers; after a NOTICE's last bit its record
waits for its ACK with a retransmit deadline 100 ms away. R180: the bytes are those of 12 "The frame", with the codes
of 12 "Kind codes" and "Reason and other codes" and the payloads of 12 "Payloads of the central kinds". -/
def Obligations.SupplyLinkSendsInPrecedence : Prop :=
  ∀ (s : State), s.part = .running → s.NoticesOrdered →
    let gives (t : State) : Prop := exec .upstreamTransmissionBegin s = .next t
    let sending (f : UpFrame) (bytes : List Byte) : State := { s with supply.transmission := some ⟨f, bytes⟩ }
    let two (n : Nat) : List Byte := [byteOf (n / 256), byteOf n]
    let frame (kind seq : Byte) (payload : List Byte) : List Byte :=
      let body : List Byte :=
        byteOf (payload.length + 4) :: 0x02 :: (0x30 + s.straps.zeroExtend 8) :: kind :: seq :: payload
      0xC3 :: (body ++ two (crc16 body).toNat)
    let reason (r : NakReason) : Byte := match r with
      | .malformed => 1 | .badTable => 2 | .badIndex => 3 | .badSlot => 4 | .badValue => 5 | .noContract => 6
      | .wrongState => 7 | .busy => 8 | .isProtected => 9 | .notBlank => 10 | .notValid => 11 | .exhausted => 12
    let answer (a : Answer) : List Byte := frame 0x70 a.seq (match a.settle with
      | .ack data => 0 :: 0 :: data
      | .nak r => [1, reason r])
    let kind (k : EventKind) : Byte := match k with
      | .restarted => 0 | .slotJoined => 1 | .slotLost => 2 | .slotMismatch => 3 | .cut => 4 | .violation => 5
      | .overcommit => 6 | .overcommitCleared => 7 | .watermark => 8 | .watermarkCleared => 9 | .budgetStale => 10
      | .budgetResumed => 11 | .queueTimeout => 12 | .storeDone => 13 | .storeFailed => 14 | .linkErrors => 15
      | .forwardDrop => 16 | .noticeLost => 17
    let origin (o : Option Origin) : Byte := match o with
      | some (.slot i) => byteOf i.val
      | some .supply => 8
      | none => 0xFF
    let notice (n : Notice) : List Byte :=
      frame 0x71 n.seq (kind n.kind :: origin n.origin :: byteOf n.count :: two n.detail)
    let dataUp (d : DataUp) : List Byte := frame 0x72 d.seq (byteOf d.slot.val :: d.payload)
    let others : Prop := match s.forward with
      | [] => gives s
      | d :: rest =>
        gives { sending (.dataUp d) (dataUp d) with forward := rest }
    (s.supply.transmission ≠ none → gives s)
    ∧ (s.supply.transmission = none →
        match s.man.answers with
        | a :: rest => gives { sending (.answer a) (answer a) with man.answers := rest }
        | [] =>
          if s.man.restartWait = true then gives s
          else match s.ntc.queue with
            | [] => others
            | n :: rest =>
              match n.state with
              | .sent sends .offered =>
                let m : Notice := { n with state := .sent (sends + 1) .transmitting }
                gives { sending (.notice m) (notice n) with ntc.queue := m :: rest }
              | .waiting | .sent _ .transmitting | .sent _ (.awaiting _) => others)
    ∧ (∀ x, s.supply.transmission = some x →
        let idle : State := { s with supply.transmission := none }
        exec .upstreamTransmissionSent s =
          .next (match x.frame, s.ntc.queue with
            | .notice _, n :: rest => match n.state with
              | .sent sends .transmitting =>
                { idle with ntc.queue := { n with state := .sent sends (.awaiting (s.now + 100)) } :: rest }
              | .waiting | .sent _ .offered | .sent _ (.awaiting _) => idle
            | .notice _, [] | .answer _, _ | .dataUp _, _ => idle))
end

