-- ==== Sys2Proof/Laws/State.lean ====
section
/-!
SUPPORT. The small lemmas of the state's updates: which blocks each shared operation leaves alone, and what a port
reads as after a port is replaced. Later proofs cite these and unfold no record update.
-/

namespace Sys2Proof.Machine

variable (s : State)

/-! ## One port after another is replaced -/

@[simp] theorem port_setPort_self (i : Slot) (p : SlotPort) : (s.setPort i p).port i = p := by
  show (s.ports.set i.val p)[i.val] = p
  simp

@[simp] theorem port_setPort_other (i j : Slot) (p : SlotPort) (h : j ≠ i) : (s.setPort i p).port j = s.port j := by
  have h' : i.val ≠ j.val := fun e => h (Fin.ext e.symm)
  show (s.ports.set i.val p)[j.val] = s.ports[j.val]
  simp [h']

@[simp] theorem setPort_setPort (i : Slot) (p q : SlotPort) : (s.setPort i p).setPort i q = s.setPort i q := by
  simp [State.setPort]

@[simp] theorem port_onPort_self (i : Slot) (f : SlotPort → SlotPort) : (s.onPort i f).port i = f (s.port i) := by
  simp [State.onPort]

@[simp] theorem port_onPort_other (i j : Slot) (f : SlotPort → SlotPort) (h : j ≠ i) :
    (s.onPort i f).port j = s.port j := by
  simp [State.onPort, h]

theorem port_congr {s t : State} (h : t.ports = s.ports) (i : Slot) : t.port i = s.port i := by
  simp [State.port, h]

theorem policy_congr {s t : State} (h : t.pol = s.pol) (i : Slot) : t.policy i = s.policy i := by
  simp [State.policy, h]

/-! ## The blocks each update leaves alone -/

@[simp] theorem setPort_now (i : Slot) (p : SlotPort) : (s.setPort i p).now = s.now := rfl
@[simp] theorem setPort_pending (i : Slot) (p : SlotPort) : (s.setPort i p).pending = s.pending := rfl
@[simp] theorem setPort_part (i : Slot) (p : SlotPort) : (s.setPort i p).part = s.part := rfl
@[simp] theorem setPort_straps (i : Slot) (p : SlotPort) : (s.setPort i p).straps = s.straps := rfl
@[simp] theorem setPort_supply (i : Slot) (p : SlotPort) : (s.setPort i p).supply = s.supply := rfl
@[simp] theorem setPort_adm (i : Slot) (p : SlotPort) : (s.setPort i p).adm = s.adm := rfl
@[simp] theorem setPort_bud (i : Slot) (p : SlotPort) : (s.setPort i p).bud = s.bud := rfl
@[simp] theorem setPort_eng (i : Slot) (p : SlotPort) : (s.setPort i p).eng = s.eng := rfl
@[simp] theorem setPort_pol (i : Slot) (p : SlotPort) : (s.setPort i p).pol = s.pol := rfl
@[simp] theorem setPort_man (i : Slot) (p : SlotPort) : (s.setPort i p).man = s.man := rfl
@[simp] theorem setPort_ntc (i : Slot) (p : SlotPort) : (s.setPort i p).ntc = s.ntc := rfl
@[simp] theorem setPort_store (i : Slot) (p : SlotPort) : (s.setPort i p).store = s.store := rfl
@[simp] theorem setPort_forward (i : Slot) (p : SlotPort) : (s.setPort i p).forward = s.forward := rfl

@[simp] theorem onPort_now (i : Slot) (f : SlotPort → SlotPort) : (s.onPort i f).now = s.now := rfl
@[simp] theorem onPort_pending (i : Slot) (f : SlotPort → SlotPort) : (s.onPort i f).pending = s.pending := rfl
@[simp] theorem onPort_part (i : Slot) (f : SlotPort → SlotPort) : (s.onPort i f).part = s.part := rfl
@[simp] theorem onPort_straps (i : Slot) (f : SlotPort → SlotPort) : (s.onPort i f).straps = s.straps := rfl
@[simp] theorem onPort_supply (i : Slot) (f : SlotPort → SlotPort) : (s.onPort i f).supply = s.supply := rfl
@[simp] theorem onPort_adm (i : Slot) (f : SlotPort → SlotPort) : (s.onPort i f).adm = s.adm := rfl
@[simp] theorem onPort_bud (i : Slot) (f : SlotPort → SlotPort) : (s.onPort i f).bud = s.bud := rfl
@[simp] theorem onPort_eng (i : Slot) (f : SlotPort → SlotPort) : (s.onPort i f).eng = s.eng := rfl
@[simp] theorem onPort_pol (i : Slot) (f : SlotPort → SlotPort) : (s.onPort i f).pol = s.pol := rfl
@[simp] theorem onPort_man (i : Slot) (f : SlotPort → SlotPort) : (s.onPort i f).man = s.man := rfl
@[simp] theorem onPort_ntc (i : Slot) (f : SlotPort → SlotPort) : (s.onPort i f).ntc = s.ntc := rfl
@[simp] theorem onPort_store (i : Slot) (f : SlotPort → SlotPort) : (s.onPort i f).store = s.store := rfl
@[simp] theorem onPort_forward (i : Slot) (f : SlotPort → SlotPort) : (s.onPort i f).forward = s.forward := rfl

@[simp] theorem raise_now (k : EventKind) (o : Option Origin) (d : Nat) : (s.raise k o d).now = s.now := rfl
@[simp] theorem raise_pending (k : EventKind) (o : Option Origin) (d : Nat) : (s.raise k o d).pending = s.pending := rfl
@[simp] theorem raise_part (k : EventKind) (o : Option Origin) (d : Nat) : (s.raise k o d).part = s.part := rfl
@[simp] theorem raise_straps (k : EventKind) (o : Option Origin) (d : Nat) : (s.raise k o d).straps = s.straps := rfl
@[simp] theorem raise_ports (k : EventKind) (o : Option Origin) (d : Nat) : (s.raise k o d).ports = s.ports := rfl
@[simp] theorem raise_supply (k : EventKind) (o : Option Origin) (d : Nat) : (s.raise k o d).supply = s.supply := rfl
@[simp] theorem raise_adm (k : EventKind) (o : Option Origin) (d : Nat) : (s.raise k o d).adm = s.adm := rfl
@[simp] theorem raise_bud (k : EventKind) (o : Option Origin) (d : Nat) : (s.raise k o d).bud = s.bud := rfl
@[simp] theorem raise_eng (k : EventKind) (o : Option Origin) (d : Nat) : (s.raise k o d).eng = s.eng := rfl
@[simp] theorem raise_pol (k : EventKind) (o : Option Origin) (d : Nat) : (s.raise k o d).pol = s.pol := rfl
@[simp] theorem raise_man (k : EventKind) (o : Option Origin) (d : Nat) : (s.raise k o d).man = s.man := rfl
@[simp] theorem raise_store (k : EventKind) (o : Option Origin) (d : Nat) : (s.raise k o d).store = s.store := rfl
@[simp] theorem raise_forward (k : EventKind) (o : Option Origin) (d : Nat) : (s.raise k o d).forward = s.forward := rfl

@[simp] theorem reach_pending (d : Time) : (s.reach d).pending = s.pending := rfl
@[simp] theorem reach_part (d : Time) : (s.reach d).part = s.part := rfl
@[simp] theorem reach_straps (d : Time) : (s.reach d).straps = s.straps := rfl
@[simp] theorem reach_ports (d : Time) : (s.reach d).ports = s.ports := rfl
@[simp] theorem reach_supply (d : Time) : (s.reach d).supply = s.supply := rfl
@[simp] theorem reach_adm (d : Time) : (s.reach d).adm = s.adm := rfl
@[simp] theorem reach_bud (d : Time) : (s.reach d).bud = s.bud := rfl
@[simp] theorem reach_eng (d : Time) : (s.reach d).eng = s.eng := rfl
@[simp] theorem reach_pol (d : Time) : (s.reach d).pol = s.pol := rfl
@[simp] theorem reach_man (d : Time) : (s.reach d).man = s.man := rfl
@[simp] theorem reach_ntc (d : Time) : (s.reach d).ntc = s.ntc := rfl
@[simp] theorem reach_store (d : Time) : (s.reach d).store = s.store := rfl
@[simp] theorem reach_forward (d : Time) : (s.reach d).forward = s.forward := rfl

@[simp] theorem reply_now (i : Slot) (r : Reply) : (s.reply i r).now = s.now := rfl
@[simp] theorem reply_pending (i : Slot) (r : Reply) : (s.reply i r).pending = s.pending := rfl
@[simp] theorem reply_part (i : Slot) (r : Reply) : (s.reply i r).part = s.part := rfl
@[simp] theorem reply_straps (i : Slot) (r : Reply) : (s.reply i r).straps = s.straps := rfl
@[simp] theorem reply_supply (i : Slot) (r : Reply) : (s.reply i r).supply = s.supply := rfl
@[simp] theorem reply_adm (i : Slot) (r : Reply) : (s.reply i r).adm = s.adm := rfl
@[simp] theorem reply_bud (i : Slot) (r : Reply) : (s.reply i r).bud = s.bud := rfl
@[simp] theorem reply_eng (i : Slot) (r : Reply) : (s.reply i r).eng = s.eng := rfl
@[simp] theorem reply_pol (i : Slot) (r : Reply) : (s.reply i r).pol = s.pol := rfl
@[simp] theorem reply_man (i : Slot) (r : Reply) : (s.reply i r).man = s.man := rfl
@[simp] theorem reply_ntc (i : Slot) (r : Reply) : (s.reply i r).ntc = s.ntc := rfl
@[simp] theorem reply_store (i : Slot) (r : Reply) : (s.reply i r).store = s.store := rfl
@[simp] theorem reply_forward (i : Slot) (r : Reply) : (s.reply i r).forward = s.forward := rfl

@[simp] theorem refuse_now (i : Slot) (t : Byte) (r : RefuseReason) : (s.refuse i t r).now = s.now := rfl
@[simp] theorem refuse_pending (i : Slot) (t : Byte) (r : RefuseReason) : (s.refuse i t r).pending = s.pending := rfl
@[simp] theorem refuse_part (i : Slot) (t : Byte) (r : RefuseReason) : (s.refuse i t r).part = s.part := rfl
@[simp] theorem refuse_straps (i : Slot) (t : Byte) (r : RefuseReason) : (s.refuse i t r).straps = s.straps := rfl
@[simp] theorem refuse_supply (i : Slot) (t : Byte) (r : RefuseReason) : (s.refuse i t r).supply = s.supply := rfl
@[simp] theorem refuse_adm (i : Slot) (t : Byte) (r : RefuseReason) : (s.refuse i t r).adm = s.adm := rfl
@[simp] theorem refuse_bud (i : Slot) (t : Byte) (r : RefuseReason) : (s.refuse i t r).bud = s.bud := rfl
@[simp] theorem refuse_eng (i : Slot) (t : Byte) (r : RefuseReason) : (s.refuse i t r).eng = s.eng := rfl
@[simp] theorem refuse_pol (i : Slot) (t : Byte) (r : RefuseReason) : (s.refuse i t r).pol = s.pol := rfl
@[simp] theorem refuse_man (i : Slot) (t : Byte) (r : RefuseReason) : (s.refuse i t r).man = s.man := rfl
@[simp] theorem refuse_ntc (i : Slot) (t : Byte) (r : RefuseReason) : (s.refuse i t r).ntc = s.ntc := rfl
@[simp] theorem refuse_store (i : Slot) (t : Byte) (r : RefuseReason) : (s.refuse i t r).store = s.store := rfl
@[simp] theorem refuse_forward (i : Slot) (t : Byte) (r : RefuseReason) : (s.refuse i t r).forward = s.forward := rfl

@[simp] theorem order_now (i : Slot) (o : Order) : (s.order i o).now = s.now := rfl
@[simp] theorem order_pending (i : Slot) (o : Order) : (s.order i o).pending = s.pending := rfl
@[simp] theorem order_part (i : Slot) (o : Order) : (s.order i o).part = s.part := rfl
@[simp] theorem order_straps (i : Slot) (o : Order) : (s.order i o).straps = s.straps := rfl
@[simp] theorem order_supply (i : Slot) (o : Order) : (s.order i o).supply = s.supply := rfl
@[simp] theorem order_adm (i : Slot) (o : Order) : (s.order i o).adm = s.adm := rfl
@[simp] theorem order_bud (i : Slot) (o : Order) : (s.order i o).bud = s.bud := rfl
@[simp] theorem order_eng (i : Slot) (o : Order) : (s.order i o).eng = s.eng := rfl
@[simp] theorem order_pol (i : Slot) (o : Order) : (s.order i o).pol = s.pol := rfl
@[simp] theorem order_man (i : Slot) (o : Order) : (s.order i o).man = s.man := rfl
@[simp] theorem order_ntc (i : Slot) (o : Order) : (s.order i o).ntc = s.ntc := rfl
@[simp] theorem order_store (i : Slot) (o : Order) : (s.order i o).store = s.store := rfl
@[simp] theorem order_forward (i : Slot) (o : Order) : (s.order i o).forward = s.forward := rfl

@[simp] theorem evalEnable_now (i : Slot) : (s.evalEnable i).now = s.now := rfl
@[simp] theorem evalEnable_pending (i : Slot) : (s.evalEnable i).pending = s.pending := rfl
@[simp] theorem evalEnable_part (i : Slot) : (s.evalEnable i).part = s.part := rfl
@[simp] theorem evalEnable_straps (i : Slot) : (s.evalEnable i).straps = s.straps := rfl
@[simp] theorem evalEnable_supply (i : Slot) : (s.evalEnable i).supply = s.supply := rfl
@[simp] theorem evalEnable_adm (i : Slot) : (s.evalEnable i).adm = s.adm := rfl
@[simp] theorem evalEnable_bud (i : Slot) : (s.evalEnable i).bud = s.bud := rfl
@[simp] theorem evalEnable_eng (i : Slot) : (s.evalEnable i).eng = s.eng := rfl
@[simp] theorem evalEnable_pol (i : Slot) : (s.evalEnable i).pol = s.pol := rfl
@[simp] theorem evalEnable_man (i : Slot) : (s.evalEnable i).man = s.man := rfl
@[simp] theorem evalEnable_ntc (i : Slot) : (s.evalEnable i).ntc = s.ntc := rfl
@[simp] theorem evalEnable_store (i : Slot) : (s.evalEnable i).store = s.store := rfl
@[simp] theorem evalEnable_forward (i : Slot) : (s.evalEnable i).forward = s.forward := rfl

@[simp] theorem deassert_now (i : Slot) : (s.deassert i).now = s.now := rfl
@[simp] theorem deassert_pending (i : Slot) : (s.deassert i).pending = s.pending := rfl
@[simp] theorem deassert_part (i : Slot) : (s.deassert i).part = s.part := rfl
@[simp] theorem deassert_straps (i : Slot) : (s.deassert i).straps = s.straps := rfl
@[simp] theorem deassert_supply (i : Slot) : (s.deassert i).supply = s.supply := rfl
@[simp] theorem deassert_adm (i : Slot) : (s.deassert i).adm = s.adm := rfl
@[simp] theorem deassert_bud (i : Slot) : (s.deassert i).bud = s.bud := rfl
@[simp] theorem deassert_eng (i : Slot) : (s.deassert i).eng = s.eng := rfl
@[simp] theorem deassert_pol (i : Slot) : (s.deassert i).pol = s.pol := rfl
@[simp] theorem deassert_man (i : Slot) : (s.deassert i).man = s.man := rfl
@[simp] theorem deassert_ntc (i : Slot) : (s.deassert i).ntc = s.ntc := rfl
@[simp] theorem deassert_store (i : Slot) : (s.deassert i).store = s.store := rfl
@[simp] theorem deassert_forward (i : Slot) : (s.deassert i).forward = s.forward := rfl

@[simp] theorem emptyQueues_now (i : Slot) : (s.emptyQueues i).now = s.now := rfl
@[simp] theorem emptyQueues_pending (i : Slot) : (s.emptyQueues i).pending = s.pending := rfl
@[simp] theorem emptyQueues_part (i : Slot) : (s.emptyQueues i).part = s.part := rfl
@[simp] theorem emptyQueues_straps (i : Slot) : (s.emptyQueues i).straps = s.straps := rfl
@[simp] theorem emptyQueues_supply (i : Slot) : (s.emptyQueues i).supply = s.supply := rfl
@[simp] theorem emptyQueues_adm (i : Slot) : (s.emptyQueues i).adm = s.adm := rfl
@[simp] theorem emptyQueues_bud (i : Slot) : (s.emptyQueues i).bud = s.bud := rfl
@[simp] theorem emptyQueues_eng (i : Slot) : (s.emptyQueues i).eng = s.eng := rfl
@[simp] theorem emptyQueues_pol (i : Slot) : (s.emptyQueues i).pol = s.pol := rfl
@[simp] theorem emptyQueues_man (i : Slot) : (s.emptyQueues i).man = s.man := rfl
@[simp] theorem emptyQueues_ntc (i : Slot) : (s.emptyQueues i).ntc = s.ntc := rfl
@[simp] theorem emptyQueues_store (i : Slot) : (s.emptyQueues i).store = s.store := rfl
@[simp] theorem emptyQueues_forward (i : Slot) : (s.emptyQueues i).forward = s.forward := rfl

@[simp] theorem stray_now (i : Slot) : (s.stray i).now = s.now := rfl
@[simp] theorem stray_pending (i : Slot) : (s.stray i).pending = s.pending := rfl
@[simp] theorem stray_part (i : Slot) : (s.stray i).part = s.part := rfl
@[simp] theorem stray_straps (i : Slot) : (s.stray i).straps = s.straps := rfl
@[simp] theorem stray_supply (i : Slot) : (s.stray i).supply = s.supply := rfl
@[simp] theorem stray_adm (i : Slot) : (s.stray i).adm = s.adm := rfl
@[simp] theorem stray_bud (i : Slot) : (s.stray i).bud = s.bud := rfl
@[simp] theorem stray_eng (i : Slot) : (s.stray i).eng = s.eng := rfl
@[simp] theorem stray_pol (i : Slot) : (s.stray i).pol = s.pol := rfl
@[simp] theorem stray_man (i : Slot) : (s.stray i).man = s.man := rfl
@[simp] theorem stray_ntc (i : Slot) : (s.stray i).ntc = s.ntc := rfl
@[simp] theorem stray_store (i : Slot) : (s.stray i).store = s.store := rfl
@[simp] theorem stray_forward (i : Slot) : (s.stray i).forward = s.forward := rfl

@[simp] theorem proofOfLife_now (i : Slot) : (s.proofOfLife i).now = s.now := rfl
@[simp] theorem proofOfLife_pending (i : Slot) : (s.proofOfLife i).pending = s.pending := rfl
@[simp] theorem proofOfLife_part (i : Slot) : (s.proofOfLife i).part = s.part := rfl
@[simp] theorem proofOfLife_straps (i : Slot) : (s.proofOfLife i).straps = s.straps := rfl
@[simp] theorem proofOfLife_supply (i : Slot) : (s.proofOfLife i).supply = s.supply := rfl
@[simp] theorem proofOfLife_adm (i : Slot) : (s.proofOfLife i).adm = s.adm := rfl
@[simp] theorem proofOfLife_bud (i : Slot) : (s.proofOfLife i).bud = s.bud := rfl
@[simp] theorem proofOfLife_eng (i : Slot) : (s.proofOfLife i).eng = s.eng := rfl
@[simp] theorem proofOfLife_pol (i : Slot) : (s.proofOfLife i).pol = s.pol := rfl
@[simp] theorem proofOfLife_man (i : Slot) : (s.proofOfLife i).man = s.man := rfl
@[simp] theorem proofOfLife_ntc (i : Slot) : (s.proofOfLife i).ntc = s.ntc := rfl
@[simp] theorem proofOfLife_store (i : Slot) : (s.proofOfLife i).store = s.store := rfl
@[simp] theorem proofOfLife_forward (i : Slot) : (s.proofOfLife i).forward = s.forward := rfl

@[simp] theorem onHearing_now (i : Slot) : (s.onHearing i).now = s.now := rfl
@[simp] theorem onHearing_pending (i : Slot) : (s.onHearing i).pending = s.pending := rfl
@[simp] theorem onHearing_part (i : Slot) : (s.onHearing i).part = s.part := rfl
@[simp] theorem onHearing_straps (i : Slot) : (s.onHearing i).straps = s.straps := rfl
@[simp] theorem onHearing_supply (i : Slot) : (s.onHearing i).supply = s.supply := rfl
@[simp] theorem onHearing_adm (i : Slot) : (s.onHearing i).adm = s.adm := rfl
@[simp] theorem onHearing_bud (i : Slot) : (s.onHearing i).bud = s.bud := rfl
@[simp] theorem onHearing_eng (i : Slot) : (s.onHearing i).eng = s.eng := rfl
@[simp] theorem onHearing_pol (i : Slot) : (s.onHearing i).pol = s.pol := rfl
@[simp] theorem onHearing_man (i : Slot) : (s.onHearing i).man = s.man := rfl
@[simp] theorem onHearing_ntc (i : Slot) : (s.onHearing i).ntc = s.ntc := rfl
@[simp] theorem onHearing_store (i : Slot) : (s.onHearing i).store = s.store := rfl
@[simp] theorem onHearing_forward (i : Slot) : (s.onHearing i).forward = s.forward := rfl

@[simp] theorem answered_now (i : Slot) (r : Reply) : (s.answered i r).now = s.now := rfl
@[simp] theorem answered_pending (i : Slot) (r : Reply) : (s.answered i r).pending = s.pending := rfl
@[simp] theorem answered_part (i : Slot) (r : Reply) : (s.answered i r).part = s.part := rfl
@[simp] theorem answered_straps (i : Slot) (r : Reply) : (s.answered i r).straps = s.straps := rfl
@[simp] theorem answered_supply (i : Slot) (r : Reply) : (s.answered i r).supply = s.supply := rfl
@[simp] theorem answered_adm (i : Slot) (r : Reply) : (s.answered i r).adm = s.adm := rfl
@[simp] theorem answered_bud (i : Slot) (r : Reply) : (s.answered i r).bud = s.bud := rfl
@[simp] theorem answered_eng (i : Slot) (r : Reply) : (s.answered i r).eng = s.eng := rfl
@[simp] theorem answered_pol (i : Slot) (r : Reply) : (s.answered i r).pol = s.pol := rfl
@[simp] theorem answered_man (i : Slot) (r : Reply) : (s.answered i r).man = s.man := rfl
@[simp] theorem answered_ntc (i : Slot) (r : Reply) : (s.answered i r).ntc = s.ntc := rfl
@[simp] theorem answered_store (i : Slot) (r : Reply) : (s.answered i r).store = s.store := rfl
@[simp] theorem answered_forward (i : Slot) (r : Reply) : (s.answered i r).forward = s.forward := rfl

@[simp] theorem declare_now (i : Slot) (d : Declared) : (s.declare i d).now = s.now := rfl
@[simp] theorem declare_pending (i : Slot) (d : Declared) : (s.declare i d).pending = s.pending := rfl
@[simp] theorem declare_part (i : Slot) (d : Declared) : (s.declare i d).part = s.part := rfl
@[simp] theorem declare_straps (i : Slot) (d : Declared) : (s.declare i d).straps = s.straps := rfl
@[simp] theorem declare_supply (i : Slot) (d : Declared) : (s.declare i d).supply = s.supply := rfl
@[simp] theorem declare_adm (i : Slot) (d : Declared) : (s.declare i d).adm = s.adm := rfl
@[simp] theorem declare_bud (i : Slot) (d : Declared) : (s.declare i d).bud = s.bud := rfl
@[simp] theorem declare_eng (i : Slot) (d : Declared) : (s.declare i d).eng = s.eng := rfl
@[simp] theorem declare_pol (i : Slot) (d : Declared) : (s.declare i d).pol = s.pol := rfl
@[simp] theorem declare_man (i : Slot) (d : Declared) : (s.declare i d).man = s.man := rfl
@[simp] theorem declare_ntc (i : Slot) (d : Declared) : (s.declare i d).ntc = s.ntc := rfl
@[simp] theorem declare_store (i : Slot) (d : Declared) : (s.declare i d).store = s.store := rfl
@[simp] theorem declare_forward (i : Slot) (d : Declared) : (s.declare i d).forward = s.forward := rfl

@[simp] theorem declarePeak_now (i : Slot) (n : Nat) : (s.declarePeak i n).now = s.now := rfl
@[simp] theorem declarePeak_pending (i : Slot) (n : Nat) : (s.declarePeak i n).pending = s.pending := rfl
@[simp] theorem declarePeak_part (i : Slot) (n : Nat) : (s.declarePeak i n).part = s.part := rfl
@[simp] theorem declarePeak_straps (i : Slot) (n : Nat) : (s.declarePeak i n).straps = s.straps := rfl
@[simp] theorem declarePeak_supply (i : Slot) (n : Nat) : (s.declarePeak i n).supply = s.supply := rfl
@[simp] theorem declarePeak_adm (i : Slot) (n : Nat) : (s.declarePeak i n).adm = s.adm := rfl
@[simp] theorem declarePeak_bud (i : Slot) (n : Nat) : (s.declarePeak i n).bud = s.bud := rfl
@[simp] theorem declarePeak_eng (i : Slot) (n : Nat) : (s.declarePeak i n).eng = s.eng := rfl
@[simp] theorem declarePeak_pol (i : Slot) (n : Nat) : (s.declarePeak i n).pol = s.pol := rfl
@[simp] theorem declarePeak_man (i : Slot) (n : Nat) : (s.declarePeak i n).man = s.man := rfl
@[simp] theorem declarePeak_ntc (i : Slot) (n : Nat) : (s.declarePeak i n).ntc = s.ntc := rfl
@[simp] theorem declarePeak_store (i : Slot) (n : Nat) : (s.declarePeak i n).store = s.store := rfl
@[simp] theorem declarePeak_forward (i : Slot) (n : Nat) : (s.declarePeak i n).forward = s.forward := rfl

@[simp] theorem enterVacant_now (i : Slot) (d : Option Time) : (s.enterVacant i d).now = s.now := rfl
@[simp] theorem enterVacant_pending (i : Slot) (d : Option Time) : (s.enterVacant i d).pending = s.pending := rfl
@[simp] theorem enterVacant_part (i : Slot) (d : Option Time) : (s.enterVacant i d).part = s.part := rfl
@[simp] theorem enterVacant_straps (i : Slot) (d : Option Time) : (s.enterVacant i d).straps = s.straps := rfl
@[simp] theorem enterVacant_supply (i : Slot) (d : Option Time) : (s.enterVacant i d).supply = s.supply := rfl
@[simp] theorem enterVacant_adm (i : Slot) (d : Option Time) : (s.enterVacant i d).adm = s.adm := rfl
@[simp] theorem enterVacant_bud (i : Slot) (d : Option Time) : (s.enterVacant i d).bud = s.bud := rfl
@[simp] theorem enterVacant_eng (i : Slot) (d : Option Time) : (s.enterVacant i d).eng = s.eng := rfl
@[simp] theorem enterVacant_pol (i : Slot) (d : Option Time) : (s.enterVacant i d).pol = s.pol := rfl
@[simp] theorem enterVacant_man (i : Slot) (d : Option Time) : (s.enterVacant i d).man = s.man := rfl
@[simp] theorem enterVacant_ntc (i : Slot) (d : Option Time) : (s.enterVacant i d).ntc = s.ntc := rfl
@[simp] theorem enterVacant_store (i : Slot) (d : Option Time) : (s.enterVacant i d).store = s.store := rfl
@[simp] theorem enterVacant_forward (i : Slot) (d : Option Time) : (s.enterVacant i d).forward = s.forward := rfl

@[simp] theorem enterKnown_now (i : Slot) (x : SlotState) (k : EventKind) : (s.enterKnown i x k).now = s.now := rfl
@[simp] theorem enterKnown_pending (i : Slot) (x : SlotState) (k : EventKind) : (s.enterKnown i x k).pending = s.pending := rfl
@[simp] theorem enterKnown_part (i : Slot) (x : SlotState) (k : EventKind) : (s.enterKnown i x k).part = s.part := rfl
@[simp] theorem enterKnown_straps (i : Slot) (x : SlotState) (k : EventKind) : (s.enterKnown i x k).straps = s.straps := rfl
@[simp] theorem enterKnown_supply (i : Slot) (x : SlotState) (k : EventKind) : (s.enterKnown i x k).supply = s.supply := rfl
@[simp] theorem enterKnown_adm (i : Slot) (x : SlotState) (k : EventKind) : (s.enterKnown i x k).adm = s.adm := rfl
@[simp] theorem enterKnown_bud (i : Slot) (x : SlotState) (k : EventKind) : (s.enterKnown i x k).bud = s.bud := rfl
@[simp] theorem enterKnown_eng (i : Slot) (x : SlotState) (k : EventKind) : (s.enterKnown i x k).eng = s.eng := rfl
@[simp] theorem enterKnown_pol (i : Slot) (x : SlotState) (k : EventKind) : (s.enterKnown i x k).pol = s.pol := rfl
@[simp] theorem enterKnown_man (i : Slot) (x : SlotState) (k : EventKind) : (s.enterKnown i x k).man = s.man := rfl
@[simp] theorem enterKnown_store (i : Slot) (x : SlotState) (k : EventKind) : (s.enterKnown i x k).store = s.store := rfl
@[simp] theorem enterKnown_forward (i : Slot) (x : SlotState) (k : EventKind) : (s.enterKnown i x k).forward = s.forward := rfl

@[simp] theorem disable_now (i : Slot) : (s.disable i).now = s.now := rfl
@[simp] theorem disable_pending (i : Slot) : (s.disable i).pending = s.pending := rfl
@[simp] theorem disable_part (i : Slot) : (s.disable i).part = s.part := rfl
@[simp] theorem disable_straps (i : Slot) : (s.disable i).straps = s.straps := rfl
@[simp] theorem disable_supply (i : Slot) : (s.disable i).supply = s.supply := rfl
@[simp] theorem disable_adm (i : Slot) : (s.disable i).adm = s.adm := rfl
@[simp] theorem disable_bud (i : Slot) : (s.disable i).bud = s.bud := rfl
@[simp] theorem disable_eng (i : Slot) : (s.disable i).eng = s.eng := rfl
@[simp] theorem disable_pol (i : Slot) : (s.disable i).pol = s.pol := rfl
@[simp] theorem disable_man (i : Slot) : (s.disable i).man = s.man := rfl
@[simp] theorem disable_ntc (i : Slot) : (s.disable i).ntc = s.ntc := rfl
@[simp] theorem disable_store (i : Slot) : (s.disable i).store = s.store := rfl
@[simp] theorem disable_forward (i : Slot) : (s.disable i).forward = s.forward := rfl

@[simp] theorem onContract_now (i : Slot) (t : Byte) (f : Contract → Contract) : (s.onContract i t f).now = s.now := rfl
@[simp] theorem onContract_pending (i : Slot) (t : Byte) (f : Contract → Contract) : (s.onContract i t f).pending = s.pending := rfl
@[simp] theorem onContract_part (i : Slot) (t : Byte) (f : Contract → Contract) : (s.onContract i t f).part = s.part := rfl
@[simp] theorem onContract_straps (i : Slot) (t : Byte) (f : Contract → Contract) : (s.onContract i t f).straps = s.straps := rfl
@[simp] theorem onContract_ports (i : Slot) (t : Byte) (f : Contract → Contract) : (s.onContract i t f).ports = s.ports := rfl
@[simp] theorem onContract_supply (i : Slot) (t : Byte) (f : Contract → Contract) : (s.onContract i t f).supply = s.supply := rfl
@[simp] theorem onContract_bud (i : Slot) (t : Byte) (f : Contract → Contract) : (s.onContract i t f).bud = s.bud := rfl
@[simp] theorem onContract_eng (i : Slot) (t : Byte) (f : Contract → Contract) : (s.onContract i t f).eng = s.eng := rfl
@[simp] theorem onContract_pol (i : Slot) (t : Byte) (f : Contract → Contract) : (s.onContract i t f).pol = s.pol := rfl
@[simp] theorem onContract_man (i : Slot) (t : Byte) (f : Contract → Contract) : (s.onContract i t f).man = s.man := rfl
@[simp] theorem onContract_ntc (i : Slot) (t : Byte) (f : Contract → Contract) : (s.onContract i t f).ntc = s.ntc := rfl
@[simp] theorem onContract_store (i : Slot) (t : Byte) (f : Contract → Contract) : (s.onContract i t f).store = s.store := rfl
@[simp] theorem onContract_forward (i : Slot) (t : Byte) (f : Contract → Contract) : (s.onContract i t f).forward = s.forward := rfl

@[simp] theorem clearRecord_now (i : Slot) (t : Byte) : (s.clearRecord i t).now = s.now := rfl
@[simp] theorem clearRecord_pending (i : Slot) (t : Byte) : (s.clearRecord i t).pending = s.pending := rfl
@[simp] theorem clearRecord_part (i : Slot) (t : Byte) : (s.clearRecord i t).part = s.part := rfl
@[simp] theorem clearRecord_straps (i : Slot) (t : Byte) : (s.clearRecord i t).straps = s.straps := rfl
@[simp] theorem clearRecord_ports (i : Slot) (t : Byte) : (s.clearRecord i t).ports = s.ports := rfl
@[simp] theorem clearRecord_supply (i : Slot) (t : Byte) : (s.clearRecord i t).supply = s.supply := rfl
@[simp] theorem clearRecord_adm (i : Slot) (t : Byte) : (s.clearRecord i t).adm = s.adm := rfl
@[simp] theorem clearRecord_bud (i : Slot) (t : Byte) : (s.clearRecord i t).bud = s.bud := rfl
@[simp] theorem clearRecord_pol (i : Slot) (t : Byte) : (s.clearRecord i t).pol = s.pol := rfl
@[simp] theorem clearRecord_man (i : Slot) (t : Byte) : (s.clearRecord i t).man = s.man := rfl
@[simp] theorem clearRecord_ntc (i : Slot) (t : Byte) : (s.clearRecord i t).ntc = s.ntc := rfl
@[simp] theorem clearRecord_store (i : Slot) (t : Byte) : (s.clearRecord i t).store = s.store := rfl
@[simp] theorem clearRecord_forward (i : Slot) (t : Byte) : (s.clearRecord i t).forward = s.forward := rfl

@[simp] theorem leaveQueue_now (i : Slot) (t : Byte) : (s.leaveQueue i t).now = s.now := rfl
@[simp] theorem leaveQueue_pending (i : Slot) (t : Byte) : (s.leaveQueue i t).pending = s.pending := rfl
@[simp] theorem leaveQueue_part (i : Slot) (t : Byte) : (s.leaveQueue i t).part = s.part := rfl
@[simp] theorem leaveQueue_straps (i : Slot) (t : Byte) : (s.leaveQueue i t).straps = s.straps := rfl
@[simp] theorem leaveQueue_ports (i : Slot) (t : Byte) : (s.leaveQueue i t).ports = s.ports := rfl
@[simp] theorem leaveQueue_supply (i : Slot) (t : Byte) : (s.leaveQueue i t).supply = s.supply := rfl
@[simp] theorem leaveQueue_bud (i : Slot) (t : Byte) : (s.leaveQueue i t).bud = s.bud := rfl
@[simp] theorem leaveQueue_pol (i : Slot) (t : Byte) : (s.leaveQueue i t).pol = s.pol := rfl
@[simp] theorem leaveQueue_man (i : Slot) (t : Byte) : (s.leaveQueue i t).man = s.man := rfl
@[simp] theorem leaveQueue_ntc (i : Slot) (t : Byte) : (s.leaveQueue i t).ntc = s.ntc := rfl
@[simp] theorem leaveQueue_store (i : Slot) (t : Byte) : (s.leaveQueue i t).store = s.store := rfl
@[simp] theorem leaveQueue_forward (i : Slot) (t : Byte) : (s.leaveQueue i t).forward = s.forward := rfl

@[simp] theorem markRequested_now (e : QueueEntry) : (s.markRequested e).now = s.now := rfl
@[simp] theorem markRequested_pending (e : QueueEntry) : (s.markRequested e).pending = s.pending := rfl
@[simp] theorem markRequested_part (e : QueueEntry) : (s.markRequested e).part = s.part := rfl
@[simp] theorem markRequested_straps (e : QueueEntry) : (s.markRequested e).straps = s.straps := rfl
@[simp] theorem markRequested_ports (e : QueueEntry) : (s.markRequested e).ports = s.ports := rfl
@[simp] theorem markRequested_supply (e : QueueEntry) : (s.markRequested e).supply = s.supply := rfl
@[simp] theorem markRequested_bud (e : QueueEntry) : (s.markRequested e).bud = s.bud := rfl
@[simp] theorem markRequested_eng (e : QueueEntry) : (s.markRequested e).eng = s.eng := rfl
@[simp] theorem markRequested_pol (e : QueueEntry) : (s.markRequested e).pol = s.pol := rfl
@[simp] theorem markRequested_man (e : QueueEntry) : (s.markRequested e).man = s.man := rfl
@[simp] theorem markRequested_ntc (e : QueueEntry) : (s.markRequested e).ntc = s.ntc := rfl
@[simp] theorem markRequested_store (e : QueueEntry) : (s.markRequested e).store = s.store := rfl
@[simp] theorem markRequested_forward (e : QueueEntry) : (s.markRequested e).forward = s.forward := rfl

@[simp] theorem rebuildQueue_now : (s.rebuildQueue).now = s.now := rfl
@[simp] theorem rebuildQueue_pending : (s.rebuildQueue).pending = s.pending := rfl
@[simp] theorem rebuildQueue_part : (s.rebuildQueue).part = s.part := rfl
@[simp] theorem rebuildQueue_straps : (s.rebuildQueue).straps = s.straps := rfl
@[simp] theorem rebuildQueue_ports : (s.rebuildQueue).ports = s.ports := rfl
@[simp] theorem rebuildQueue_supply : (s.rebuildQueue).supply = s.supply := rfl
@[simp] theorem rebuildQueue_bud : (s.rebuildQueue).bud = s.bud := rfl
@[simp] theorem rebuildQueue_eng : (s.rebuildQueue).eng = s.eng := rfl
@[simp] theorem rebuildQueue_pol : (s.rebuildQueue).pol = s.pol := rfl
@[simp] theorem rebuildQueue_man : (s.rebuildQueue).man = s.man := rfl
@[simp] theorem rebuildQueue_ntc : (s.rebuildQueue).ntc = s.ntc := rfl
@[simp] theorem rebuildQueue_store : (s.rebuildQueue).store = s.store := rfl
@[simp] theorem rebuildQueue_forward : (s.rebuildQueue).forward = s.forward := rfl

@[simp] theorem removeSlot_now (i : Slot) : (s.removeSlot i).now = s.now := rfl
@[simp] theorem removeSlot_pending (i : Slot) : (s.removeSlot i).pending = s.pending := rfl
@[simp] theorem removeSlot_part (i : Slot) : (s.removeSlot i).part = s.part := rfl
@[simp] theorem removeSlot_straps (i : Slot) : (s.removeSlot i).straps = s.straps := rfl
@[simp] theorem removeSlot_supply (i : Slot) : (s.removeSlot i).supply = s.supply := rfl
@[simp] theorem removeSlot_bud (i : Slot) : (s.removeSlot i).bud = s.bud := rfl
@[simp] theorem removeSlot_pol (i : Slot) : (s.removeSlot i).pol = s.pol := rfl
@[simp] theorem removeSlot_man (i : Slot) : (s.removeSlot i).man = s.man := rfl
@[simp] theorem removeSlot_ntc (i : Slot) : (s.removeSlot i).ntc = s.ntc := rfl
@[simp] theorem removeSlot_store (i : Slot) : (s.removeSlot i).store = s.store := rfl
@[simp] theorem removeSlot_forward (i : Slot) : (s.removeSlot i).forward = s.forward := rfl

@[simp] theorem pushAnswer_now (a : Answer) : (s.pushAnswer a).now = s.now := rfl
@[simp] theorem pushAnswer_pending (a : Answer) : (s.pushAnswer a).pending = s.pending := rfl
@[simp] theorem pushAnswer_part (a : Answer) : (s.pushAnswer a).part = s.part := rfl
@[simp] theorem pushAnswer_straps (a : Answer) : (s.pushAnswer a).straps = s.straps := rfl
@[simp] theorem pushAnswer_ports (a : Answer) : (s.pushAnswer a).ports = s.ports := rfl
@[simp] theorem pushAnswer_supply (a : Answer) : (s.pushAnswer a).supply = s.supply := rfl
@[simp] theorem pushAnswer_adm (a : Answer) : (s.pushAnswer a).adm = s.adm := rfl
@[simp] theorem pushAnswer_bud (a : Answer) : (s.pushAnswer a).bud = s.bud := rfl
@[simp] theorem pushAnswer_eng (a : Answer) : (s.pushAnswer a).eng = s.eng := rfl
@[simp] theorem pushAnswer_pol (a : Answer) : (s.pushAnswer a).pol = s.pol := rfl
@[simp] theorem pushAnswer_ntc (a : Answer) : (s.pushAnswer a).ntc = s.ntc := rfl
@[simp] theorem pushAnswer_store (a : Answer) : (s.pushAnswer a).store = s.store := rfl
@[simp] theorem pushAnswer_forward (a : Answer) : (s.pushAnswer a).forward = s.forward := rfl

@[simp] theorem start_now (op : StoreOp) : (s.start op).now = s.now := rfl
@[simp] theorem start_pending (op : StoreOp) : (s.start op).pending = s.pending := rfl
@[simp] theorem start_part (op : StoreOp) : (s.start op).part = s.part := rfl
@[simp] theorem start_straps (op : StoreOp) : (s.start op).straps = s.straps := rfl
@[simp] theorem start_ports (op : StoreOp) : (s.start op).ports = s.ports := rfl
@[simp] theorem start_supply (op : StoreOp) : (s.start op).supply = s.supply := rfl
@[simp] theorem start_adm (op : StoreOp) : (s.start op).adm = s.adm := rfl
@[simp] theorem start_bud (op : StoreOp) : (s.start op).bud = s.bud := rfl
@[simp] theorem start_eng (op : StoreOp) : (s.start op).eng = s.eng := rfl
@[simp] theorem start_pol (op : StoreOp) : (s.start op).pol = s.pol := rfl
@[simp] theorem start_man (op : StoreOp) : (s.start op).man = s.man := rfl
@[simp] theorem start_ntc (op : StoreOp) : (s.start op).ntc = s.ntc := rfl
@[simp] theorem start_forward (op : StoreOp) : (s.start op).forward = s.forward := rfl

@[simp] theorem complete_now (p : Slot) (q : Page) (k : EventKind) : (s.complete p q k).now = s.now := rfl
@[simp] theorem complete_pending (p : Slot) (q : Page) (k : EventKind) : (s.complete p q k).pending = s.pending := rfl
@[simp] theorem complete_part (p : Slot) (q : Page) (k : EventKind) : (s.complete p q k).part = s.part := rfl
@[simp] theorem complete_straps (p : Slot) (q : Page) (k : EventKind) : (s.complete p q k).straps = s.straps := rfl
@[simp] theorem complete_ports (p : Slot) (q : Page) (k : EventKind) : (s.complete p q k).ports = s.ports := rfl
@[simp] theorem complete_supply (p : Slot) (q : Page) (k : EventKind) : (s.complete p q k).supply = s.supply := rfl
@[simp] theorem complete_adm (p : Slot) (q : Page) (k : EventKind) : (s.complete p q k).adm = s.adm := rfl
@[simp] theorem complete_bud (p : Slot) (q : Page) (k : EventKind) : (s.complete p q k).bud = s.bud := rfl
@[simp] theorem complete_eng (p : Slot) (q : Page) (k : EventKind) : (s.complete p q k).eng = s.eng := rfl
@[simp] theorem complete_pol (p : Slot) (q : Page) (k : EventKind) : (s.complete p q k).pol = s.pol := rfl
@[simp] theorem complete_man (p : Slot) (q : Page) (k : EventKind) : (s.complete p q k).man = s.man := rfl
@[simp] theorem complete_forward (p : Slot) (q : Page) (k : EventKind) : (s.complete p q k).forward = s.forward := rfl

@[simp] theorem transmit_now (f : UpFrame) : (s.transmit f).now = s.now := rfl
@[simp] theorem transmit_pending (f : UpFrame) : (s.transmit f).pending = s.pending := rfl
@[simp] theorem transmit_part (f : UpFrame) : (s.transmit f).part = s.part := rfl
@[simp] theorem transmit_straps (f : UpFrame) : (s.transmit f).straps = s.straps := rfl
@[simp] theorem transmit_ports (f : UpFrame) : (s.transmit f).ports = s.ports := rfl
@[simp] theorem transmit_adm (f : UpFrame) : (s.transmit f).adm = s.adm := rfl
@[simp] theorem transmit_bud (f : UpFrame) : (s.transmit f).bud = s.bud := rfl
@[simp] theorem transmit_eng (f : UpFrame) : (s.transmit f).eng = s.eng := rfl
@[simp] theorem transmit_pol (f : UpFrame) : (s.transmit f).pol = s.pol := rfl
@[simp] theorem transmit_man (f : UpFrame) : (s.transmit f).man = s.man := rfl
@[simp] theorem transmit_ntc (f : UpFrame) : (s.transmit f).ntc = s.ntc := rfl
@[simp] theorem transmit_store (f : UpFrame) : (s.transmit f).store = s.store := rfl
@[simp] theorem transmit_forward (f : UpFrame) : (s.transmit f).forward = s.forward := rfl

@[simp] theorem dropForward_now (i : Slot) : (s.dropForward i).now = s.now := rfl
@[simp] theorem dropForward_pending (i : Slot) : (s.dropForward i).pending = s.pending := rfl
@[simp] theorem dropForward_part (i : Slot) : (s.dropForward i).part = s.part := rfl
@[simp] theorem dropForward_straps (i : Slot) : (s.dropForward i).straps = s.straps := rfl
@[simp] theorem dropForward_supply (i : Slot) : (s.dropForward i).supply = s.supply := rfl
@[simp] theorem dropForward_adm (i : Slot) : (s.dropForward i).adm = s.adm := rfl
@[simp] theorem dropForward_bud (i : Slot) : (s.dropForward i).bud = s.bud := rfl
@[simp] theorem dropForward_eng (i : Slot) : (s.dropForward i).eng = s.eng := rfl
@[simp] theorem dropForward_pol (i : Slot) : (s.dropForward i).pol = s.pol := rfl
@[simp] theorem dropForward_man (i : Slot) : (s.dropForward i).man = s.man := rfl
@[simp] theorem dropForward_store (i : Slot) : (s.dropForward i).store = s.store := rfl
@[simp] theorem dropForward_forward (i : Slot) : (s.dropForward i).forward = s.forward := rfl

@[simp] theorem onContract_adm_queue (i : Slot) (t : Byte) (f : Contract → Contract) : (s.onContract i t f).adm.queue = s.adm.queue := rfl
@[simp] theorem onContract_adm_arrival (i : Slot) (t : Byte) (f : Contract → Contract) : (s.onContract i t f).adm.arrival = s.adm.arrival := rfl
@[simp] theorem onContract_adm_committed (i : Slot) (t : Byte) (f : Contract → Contract) : (s.onContract i t f).adm.committed = s.adm.committed := rfl
@[simp] theorem leaveQueue_adm_contracts (i : Slot) (t : Byte) : (s.leaveQueue i t).adm.contracts = s.adm.contracts := rfl
@[simp] theorem leaveQueue_adm_committed (i : Slot) (t : Byte) : (s.leaveQueue i t).adm.committed = s.adm.committed := rfl
@[simp] theorem leaveQueue_eng_pledged (i : Slot) (t : Byte) : (s.leaveQueue i t).eng.pledged = s.eng.pledged := rfl
@[simp] theorem markRequested_adm_contracts (e : QueueEntry) : (s.markRequested e).adm.contracts = s.adm.contracts := rfl
@[simp] theorem markRequested_adm_committed (e : QueueEntry) : (s.markRequested e).adm.committed = s.adm.committed := rfl
@[simp] theorem markRequested_adm_arrival (e : QueueEntry) : (s.markRequested e).adm.arrival = s.adm.arrival := rfl
@[simp] theorem rebuildQueue_adm_contracts : (s.rebuildQueue).adm.contracts = s.adm.contracts := rfl
@[simp] theorem rebuildQueue_adm_committed : (s.rebuildQueue).adm.committed = s.adm.committed := rfl
@[simp] theorem rebuildQueue_adm_arrival : (s.rebuildQueue).adm.arrival = s.adm.arrival := rfl
@[simp] theorem clearRecord_eng_pledged (i : Slot) (t : Byte) : (s.clearRecord i t).eng.pledged = s.eng.pledged := rfl
@[simp] theorem transmit_supply_framingErrors (f : UpFrame) : (s.transmit f).supply.framingErrors = s.supply.framingErrors := rfl
@[simp] theorem transmit_supply_crcErrors (f : UpFrame) : (s.transmit f).supply.crcErrors = s.supply.crcErrors := rfl
@[simp] theorem transmit_supply_receiver (f : UpFrame) : (s.transmit f).supply.receiver = s.supply.receiver := rfl
@[simp] theorem pushAnswer_man_cache (a : Answer) : (s.pushAnswer a).man.cache = s.man.cache := rfl
@[simp] theorem pushAnswer_man_restartWait (a : Answer) : (s.pushAnswer a).man.restartWait = s.man.restartWait := rfl
@[simp] theorem start_store_pages (op : StoreOp) : (s.start op).store.pages = s.store.pages := rfl
@[simp] theorem start_store_noImage (op : StoreOp) : (s.start op).store.noImage = s.store.noImage := rfl
@[simp] theorem start_store_loadedPage (op : StoreOp) : (s.start op).store.loadedPage = s.store.loadedPage := rfl

end Sys2Proof.Machine
end

