-- ==== Sys2Proof/Laws/Ops.lean ====
section
/-!
SUPPORT. What the shared operations do, each said once: frames of a module and of the supply link, answers, lists of
contracts and entries, the placing of a claim, and the relation `Kept` of what flags, rounds and passes leave alone.
-/

namespace Sys2Proof.Machine

variable {s : State}

/-! ## The things that stand one for each slot or page -/

@[simp] theorem get_set_self {α : Type} (v : Vector α 8) (i : Slot) (a : α) : (v.set i.val a).get i = a := by
  show (v.set i.val a)[i.val] = a
  simp

theorem get_set_other {α : Type} (v : Vector α 8) {i j : Slot} (a : α) (h : j ≠ i) : (v.set i.val a).get j = v.get j := by
  have h' : i.val ≠ j.val := fun e => h (Fin.ext e.symm)
  show (v.set i.val a)[j.val] = v[j.val]
  simp [h']

@[simp] theorem get_replicate {α : Type} (a : α) (i : Slot) : (Vector.replicate 8 a).get i = a := by
  show (Vector.replicate 8 a)[i.val] = a
  simp

/-- R165: the scan reads each page with its own bit. -/
@[simp] theorem get_scanPages (asWritten : BitVec 8) (pages : Vector Page 8) (p : Slot) :
    (scanPages asWritten pages).get p = (pages.get p).scan (asWritten.getLsbD p.val) := by
  show (scanPages asWritten pages)[p.val] = (pages[p.val]).scan (asWritten.getLsbD p.val)
  simp [scanPages]

@[simp] theorem set_get_self {α : Type} (v : Vector α 8) (i : Slot) : v.set i.val (v.get i) = v := by
  show v.set i.val v[i.val] = v
  simp

theorem mem_allSlots (i : Slot) : i ∈ allSlots := by
  unfold allSlots
  revert i
  decide

/-! ## Rounding and lists -/

theorem roundUp_zero (step : Nat) : roundUp step 0 = 0 := by
  unfold roundUp
  rcases Nat.eq_zero_or_pos step with h | h
  · simp [h]
  · simp [Nat.div_eq_of_lt (by omega : step - 1 < step)]

theorem le_roundUp {step : Nat} (h : 1 ≤ step) (n : Nat) : n ≤ roundUp step n := by
  unfold roundUp
  have := Nat.div_add_mod (n + (step - 1)) step
  have := Nat.mod_lt (n + (step - 1)) (by omega : 0 < step)
  rw [Nat.mul_comm]
  omega

theorem roundDown_le (step n : Nat) : roundDown step n ≤ n := Nat.div_mul_le_self n step

theorem modifyFirst_congr {α : Type} {p : α → Bool} {f g : α → α} {l : List α}
    (h : ∀ c, l.find? p = some c → f c = g c) : modifyFirst p f l = modifyFirst p g l := by
  induction l with
  | nil => rfl
  | cons a r ih =>
    by_cases hp : p a
    · simp [modifyFirst, hp, h a (by simp [hp])]
    · simp only [modifyFirst, hp]
      simpa using ih fun c hc => h c (by simp [hp, hc])

theorem mem_modifyFirst_find {α : Type} {p : α → Bool} {f : α → α} {l : List α} {c : α} (h : l.find? p = some c) :
    f c ∈ modifyFirst p f l := by
  induction l with
  | nil => simp at h
  | cons a r ih =>
    by_cases hp : p a
    · simp only [List.find?_cons, hp, Option.some.injEq] at h
      subst h
      simp [modifyFirst, hp]
    · simp only [List.find?_cons, hp] at h
      simp [modifyFirst, hp, ih h]

theorem length_modifyFirst {α : Type} (p : α → Bool) (f : α → α) (l : List α) : (modifyFirst p f l).length = l.length := by
  induction l with
  | nil => rfl
  | cons a r ih => unfold modifyFirst; split <;> simp [ih]

theorem isOf_of_contract? {i : Slot} {t : Byte} {c : Contract} (h : s.contract? i t = some c) : c.slot = i ∧ c.tag = t := by
  simpa [Contract.isOf] using List.find?_some h

theorem barred_iff {i : Slot} : s.barred i = true ↔ ¬ ∀ e ∈ s.adm.queue, s.entryClass e < (s.policy i).cls.code := by
  simp [State.barred]

/-! ## Answers and frames of a module -/

theorem reply_eq (i : Slot) (r : Reply) : s.reply i r = s.setPort i ((s.port i).withAnswer r) := rfl

theorem heard_state (i : Slot) : (s.heard i).state = (s.port i).state := by unfold State.heard; split <;> rfl
theorem heard_declared (i : Slot) : (s.heard i).declared = (s.port i).declared := by unfold State.heard; split <;> rfl

@[simp] theorem port_onHearing (i : Slot) : (s.onHearing i).port i = s.heard i := by simp [State.onHearing]

theorem onHearing_reply (i : Slot) (r : Reply) : (s.onHearing i).reply i r = s.answered i r := by
  simp [reply_eq, State.onHearing, State.answered]

theorem onHearing_refuse (i : Slot) (t : Byte) (r : RefuseReason) :
    (s.onHearing i).refuse i t r = s.answered i (.refuse t r) :=
  onHearing_reply i _

theorem hands_of_present {i : Slot} (ha : s.active = true) (hp : (s.port i).state = .present) : s.hands i :=
  ⟨ha, by simp [hp], by simp [hp]⟩

/-- A module's frame that is handed on is handled in the state in which it was heard (R6, R99). -/
theorem moduleFrame_of_hands {i : Slot} {f : State → State} (h : s.hands i) : moduleFrame i f s = f (s.onHearing i) := by
  obtain ⟨ha, hd, hv⟩ := h
  have hr : s.receives (.slot i) = true := by simp [State.receives, ha, hd]
  have hs : (s.hunt (.slot i)).port i = { s.port i with receiver := huntingReceiver } := by
    simp [State.hunt, State.setReceiver]
  unfold moduleFrame
  simp only [hr, if_true, hs]
  cases hst : (s.port i).state <;>
    simp_all [State.onHearing, State.heard, State.proofOfLife, State.onPort, State.hunt, State.setReceiver]

/-- A module's frame while the part takes no frames or its slot is DISABLED (R95, R141, R165). -/
theorem moduleFrame_of_not_receives {i : Slot} {f : State → State} (h : s.receives (.slot i) = false) :
    moduleFrame i f s = s := by
  simp [moduleFrame, h]

/-! ## The supply link -/

theorem supplyFrame_of_active {f : State → State} (h : s.active = true) : supplyFrame f s = f s.onSupply := by
  simp [supplyFrame, State.receives, h, State.hunt, State.setReceiver, State.onSupply]

theorem supplyFrame_of_inactive {f : State → State} (h : s.active = false) : supplyFrame f s = s := by
  simp [supplyFrame, State.receives, h]

/-- An executed command: its effect on the state in which its frame was heard, then its ANSWER (R129). -/
theorem takeCommand_of_executes {q : Byte} {run : State → State × Settle} (h : s.executes q) :
    takeCommand q run s =
      { (run s.onSupply).1 with
        man.answers := (run s.onSupply).1.man.answers ++ [⟨q, (run s.onSupply).2⟩]
        man.cache := some ⟨q, (run s.onSupply).2⟩ } := by
  obtain ⟨ha, hl, hc⟩ := h
  have hf : s.onSupply.man.cache.filter (·.seq == q) = none := by
    cases hx : s.man.cache with
    | none => simp [State.onSupply, hx]
    | some a => simpa [State.onSupply, hx, Option.filter] using hc a hx
  have hl' : ¬ Config.answerPlaces ≤ s.onSupply.man.answers.length := by simpa [State.onSupply] using hl
  simp only [takeCommand, supplyFrame_of_active ha, hl', if_false, answerCommand, hf]
  rfl

/-! ## Frames on a link -/

/-- A frame's own row takes the frame as its Slot Port or the Supply Port does (R178). -/
theorem exec_eq_takeFrame {c : Instr} (hc : carrierOf c ≠ none) (hw : c.wellFormed = true) :
    exec c s = .next (takeFrame c s) := by
  cases c <;> first
    | rfl
    | exact absurd rfl hc
    | (simp only [Instr.wellFormed, decide_eq_true_eq, beq_iff_eq] at hw
       simp [exec, takeFrame, execData, execDataDown, execWritePolicy, execSetConfig, execClearEvents, hw])

/-- A byte on a link where the receive checks are not made is discarded (R95, R141, R165). -/
theorem receiveOn_of_not_receives {link : Link} (b : Byte) (h : s.receives link = false) : receiveOn link s b = s := by
  simp [receiveOn, h]

/-- A byte on a link where the receive checks are made is the receiver's (R176), and ends a frame at most once. -/
theorem receiveOn_of_receives {link : Link} {b : Byte} {got : List Byte} {v : Option Verdict}
    (h : s.receives link = true) (hr : receiveByte s.straps link (s.receiver link).bytes b = (got, v)) :
    receiveOn link s b =
      match v with
      | none => s.setReceiver link ⟨got, if got.isEmpty then none else some (s.now + Config.byteGap)⟩
      | some v => takeVerdict link v
        (s.setReceiver link ⟨got, if got.isEmpty then none else some (s.now + Config.byteGap)⟩) := by
  cases v <;> simp only [receiveOn, h, hr, if_true]

@[simp] theorem receiver_setReceiver (link : Link) (r : Receiver) : (s.setReceiver link r).receiver link = r := by
  cases link with
  | slot i => simp [State.receiver, State.setReceiver, State.onPort]
  | supply => rfl

@[simp] theorem setReceiver_setReceiver (link : Link) (r r' : Receiver) :
    (s.setReceiver link r).setReceiver link r' = s.setReceiver link r' := by
  cases link with
  | slot i => simp [State.setReceiver, State.onPort]
  | supply => rfl

/-! ## Images -/

@[simp] theorem intact_stamped (policies : Vector Policy 8) (items : LiveItems) (generation : Nat) :
    (Image.stamped policies items generation).intact = true := by simp [Image.intact, Image.stamped]

/-- R156: an image is intact exactly when it is the one written with its contents. -/
theorem intact_iff {img : Image} : img.intact = true ↔ img = .stamped img.policies img.items img.generation := by
  obtain ⟨p, i, g, c⟩ := img
  simp [Image.intact, Image.stamped]

/-- R126, R157: every page leaves the factory with an intact image or none. -/
theorem factoryPages_intact : ∀ p, (factoryPages.get p).intact = true := by
  intro p
  fin_cases p <;> first | rfl | exact intact_stamped _ _ _

/-! ## The placing of a claim -/

theorem claimRefusal_of_claimPasses {i : Slot} {t : Byte} {want least : Nat} (h : s.claimPasses i t want least) :
    (s.onHearing i).claimRefusal i t want least = none := by
  obtain ⟨h1, h2, h3, h4, h5, h6, h7⟩ := h
  have e : (s.onHearing i).claimRefusal i t want least =
      (if least < 1 ∨ want < least then some .malformed
      else if s.tagInUse i t then some .tagInUse
      else if (s.policy i).maxContracts ≤ s.heldBy i then some .slotLimit
      else if ((s.port i).declared.any fun d => decide (d.peak ≠ 0 ∧ d.peak < want)) then some .beyondDeclared
      else if (s.policy i).ceiling < roundUp (s.policy i).step least then some .ceiling
      else none) := by
    simp only [State.claimRefusal, port_onHearing, heard_state, h1, heard_declared]
    rfl
  rw [e, if_neg (by omega), if_neg (by simp [h4]), if_neg (by omega), if_neg, if_neg (by omega)]
  cases hx : (s.port i).declared with
  | none => simp
  | some d => have := h6 d hx; simp; omega

theorem offersNow_iff {i : Slot} {least : Nat} :
    (s.onHearing i).offersNow i (roundUp (s.policy i).step least) = true ↔ s.claimFits i least := by
  rw [show (s.onHearing i).offersNow i (roundUp (s.policy i).step least)
    = s.offersNow i (roundUp (s.policy i).step least) from rfl]
  simp only [State.offersNow, State.claimFits, State.barred]
  simp [and_assoc]

/-- R29: a new entry goes behind every entry of its class or higher. -/
theorem insertEntry_eq (e : QueueEntry) (q : List QueueEntry) :
    s.insertEntry e q = s.ahead q (s.policy e.slot).cls ++ e :: s.behind q (s.policy e.slot).cls := by
  induction q with
  | nil => rfl
  | cons x r ih =>
    unfold State.insertEntry State.ahead State.behind
    by_cases h : (s.policy e.slot).cls.code ≤ (s.policy x.slot).cls.code <;>
      simp [h, State.entryClass, ih, State.ahead, State.behind]

theorem findIdx_insert {i : Slot} {t : Byte} {a b : List QueueEntry} {e : QueueEntry}
    (ha : ∀ x ∈ a, QueueEntry.isOf i t x = false) (he : QueueEntry.isOf i t e = true) :
    (a ++ e :: b).findIdx (QueueEntry.isOf i t) = a.length := by
  induction a with
  | nil => simp [List.findIdx_cons, he]
  | cons x r ih => simp [List.findIdx_cons, ha x (by simp), ih fun y hy => ha y (by simp [hy])]

theorem placeClaim_eq {i : Slot} {t : Byte} {want least : Nat} {q : List QueueEntry} (hu : s.adm.queue = q)
    (hq : ∀ x ∈ q, QueueEntry.isOf i t x = false) :
    s.placeClaim i t (roundWant (s.policy i).step want) (roundUp (s.policy i).step least) =
      ({ s with
        adm.queue := s.ahead q (s.policy i).cls ++ s.newEntry i t want least :: s.behind q (s.policy i).cls
        adm.arrival := s.adm.arrival ++ [(i, t)] } : State).reply i
          (.queued t (s.ahead q (s.policy i).cls).length) := by
  have hpos : (s.ahead q (s.policy i).cls ++ s.newEntry i t want least :: s.behind q (s.policy i).cls).findIdx
      (QueueEntry.isOf i t) = (s.ahead q (s.policy i).cls).length :=
    findIdx_insert (fun x hx => hq x ((List.takeWhile_sublist _).subset hx)) (by simp [QueueEntry.isOf, State.newEntry])
  unfold State.placeClaim
  simp only [insertEntry_eq, hu]
  rw [show ∀ u : State, u.position i t = u.adm.queue.findIdx (QueueEntry.isOf i t) from fun _ => rfl]
  exact congrArg (fun n => State.reply _ i (.queued t n)) hpos

/-! ## What flags, rounds and passes leave alone -/

/-- What no change of contracts, claims or flags touches: the time base, the waiting commands, part state, straps, the
supply link, the tables of policy, the Management Unit, the store, the forward queue, and the budget figures. -/
structure State.Kept (s t : State) : Prop where
  now : t.now = s.now
  pending : t.pending = s.pending
  part : t.part = s.part
  straps : t.straps = s.straps
  supply : t.supply = s.supply
  pol : t.pol = s.pol
  man : t.man = s.man
  store : t.store = s.store
  forward : t.forward = s.forward
  announced : t.bud.announced = s.bud.announced
  lastSequence : t.bud.lastSequence = s.bud.lastSequence
  staleDeadline : t.bud.staleDeadline = s.bud.staleDeadline
  stale : t.bud.stale = s.bud.stale
  effective : t.bud.effective = s.bud.effective
  limit : t.bud.limit = s.bud.limit
  highMark : t.bud.highMark = s.bud.highMark
  lowMark : t.bud.lowMark = s.bud.lowMark

namespace State.Kept

theorem refl (s : State) : s.Kept s := by constructor <;> rfl

theorem trans {s t u : State} (h : s.Kept t) (k : t.Kept u) : s.Kept u := by
  constructor <;> [exact k.1.trans h.1; exact k.2.trans h.2; exact k.3.trans h.3; exact k.4.trans h.4;
    exact k.5.trans h.5; exact k.6.trans h.6; exact k.7.trans h.7; exact k.8.trans h.8; exact k.9.trans h.9;
    exact k.10.trans h.10; exact k.11.trans h.11; exact k.12.trans h.12; exact k.13.trans h.13; exact k.14.trans h.14;
    exact k.15.trans h.15; exact k.16.trans h.16; exact k.17.trans h.17]

end State.Kept

theorem kept_setPort (i : Slot) (p : SlotPort) : s.Kept (s.setPort i p) := by constructor <;> rfl
theorem kept_onPort (i : Slot) (f : SlotPort → SlotPort) : s.Kept (s.onPort i f) := by constructor <;> rfl
theorem kept_reply (i : Slot) (r : Reply) : s.Kept (s.reply i r) := by constructor <;> rfl
theorem kept_refuse (i : Slot) (t : Byte) (r : RefuseReason) : s.Kept (s.refuse i t r) := by constructor <;> rfl
theorem kept_order (i : Slot) (o : Order) : s.Kept (s.order i o) := by constructor <;> rfl
theorem kept_raise (k : EventKind) (o : Option Origin) (d : Nat) : s.Kept (s.raise k o d) := by constructor <;> rfl
theorem kept_leaveQueue (i : Slot) (t : Byte) : s.Kept (s.leaveQueue i t) := by constructor <;> rfl
theorem kept_removeSlot (i : Slot) : s.Kept (s.removeSlot i) := by constructor <;> rfl
theorem kept_onContract (i : Slot) (t : Byte) (f : Contract → Contract) : s.Kept (s.onContract i t f) := by
  constructor <;> rfl
theorem kept_evalEnable (i : Slot) : s.Kept (s.evalEnable i) := by constructor <;> rfl

theorem kept_evalOvercommit : s.Kept (evalOvercommit s) := by
  unfold evalOvercommit
  (repeat' split) <;> constructor <;> rfl

theorem kept_evalWatermark : s.Kept (evalWatermark s) := by
  unfold evalWatermark
  (repeat' split) <;> constructor <;> rfl

theorem kept_evalFlags : s.Kept (evalFlags s) := kept_evalOvercommit.trans kept_evalWatermark

/-- The flags' re-evaluation touches no table, no port and no relief (R52, R54). -/
theorem evalFlags_rest : (evalFlags s).adm = s.adm ∧ (evalFlags s).eng = s.eng ∧ (evalFlags s).ports = s.ports := by
  unfold evalFlags evalWatermark evalOvercommit
  (repeat' split) <;> exact ⟨rfl, rfl, rfl⟩

@[simp] theorem evalFlags_adm : (evalFlags s).adm = s.adm := evalFlags_rest.1
@[simp] theorem evalFlags_eng : (evalFlags s).eng = s.eng := evalFlags_rest.2.1
@[simp] theorem evalFlags_ports : (evalFlags s).ports = s.ports := evalFlags_rest.2.2
@[simp] theorem evalFlags_pol : (evalFlags s).pol = s.pol := kept_evalFlags.pol
@[simp] theorem evalFlags_now : (evalFlags s).now = s.now := kept_evalFlags.now
@[simp] theorem evalFlags_limit : (evalFlags s).bud.limit = s.bud.limit := kept_evalFlags.limit

theorem kept_removeContract (i : Slot) (t : Byte) : s.Kept (s.removeContract i t) := by
  unfold State.removeContract
  split
  · exact .refl s
  · constructor <;> rfl

theorem kept_closeContract (i : Slot) (t : Byte) : s.Kept (s.closeContract i t) :=
  (kept_removeContract i t).trans kept_evalFlags

theorem kept_withdraw (i : Slot) (t : Byte) : s.Kept (s.withdraw i t) := (kept_closeContract i t).trans (kept_order i _)

theorem kept_issueShed (i : Slot) (t : Byte) (target : Nat) (forced : Bool) : s.Kept (s.issueShed i t target forced) := by
  unfold State.issueShed
  (repeat' split) <;> constructor <;> rfl

theorem kept_createOffer (i : Slot) (t : Byte) (amount : Nat) : s.Kept (s.createOffer i t amount) := by
  refine .trans (.trans (t := { s with
    adm.contracts := s.adm.contracts ++ [⟨i, t, amount, .offered (s.now + s.pol.items.acceptWindow)⟩]
    adm.committed := s.adm.committed + amount }) (by constructor <;> rfl) kept_evalFlags) (kept_order i _)

theorem kept_grantEntry (e : QueueEntry) (amount : Nat) : s.Kept (s.grantEntry e amount) :=
  (kept_leaveQueue e.slot e.tag).trans (kept_createOffer e.slot e.tag amount)

theorem kept_passWalk (l : List QueueEntry) : ∀ s : State, s.Kept (passWalk l s).1 := by
  induction l with
  | nil => exact fun s => .refl s
  | cons e rest ih =>
    intro s
    unfold passWalk
    cases s.passStep e with
    | full => exact .refl s
    | passed => exact ih s
    | taken amount => exact (kept_grantEntry e amount).trans (ih _)
    | blocked => exact .refl s

theorem kept_preemptWithdraw (bound fuel : Nat) : ∀ (need : Nat) (s : State), s.Kept (preemptWithdraw bound fuel need s).1 := by
  induction fuel with
  | zero => exact fun _ s => .refl s
  | succ fuel ih =>
    intro need s
    unfold preemptWithdraw
    split
    · exact .refl s
    · split
      · exact .refl s
      · exact (kept_withdraw _ _).trans (ih _ _)

theorem kept_preemptShed (bound fuel : Nat) : ∀ (need : Nat) (s : State), s.Kept (preemptShed bound fuel need s) := by
  induction fuel with
  | zero => exact fun _ s => .refl s
  | succ fuel ih =>
    intro need s
    unfold preemptShed
    split
    · exact .refl s
    · split
      · exact .refl s
      · exact (kept_issueShed _ _ _ _).trans (ih _ _)

theorem kept_preemptRound (r : PreemptRecord) : s.Kept (preemptRound r s).1 :=
  (kept_preemptWithdraw _ _ _ _).trans (kept_preemptShed _ _ _ _)

theorem kept_handOff (e : QueueEntry) : s.Kept (handOff e s).1 := by
  unfold handOff
  split
  · split
    · constructor <;> rfl
    · exact .trans (t := { s.markRequested e with eng.record := some (s.requestFor e) }) (by constructor <;> rfl)
        (kept_preemptRound _)
  · exact .refl s

theorem kept_admissionPass (fuel : Nat) : ∀ s : State, s.Kept (admissionPass fuel s) := by
  induction fuel with
  | zero => exact fun s => .refl s
  | succ fuel ih =>
    intro s
    have hw := kept_passWalk s.adm.queue s
    unfold admissionPass
    generalize passWalk s.adm.queue s = w at hw
    obtain ⟨u, e⟩ := w
    cases e with
    | none => exact hw
    | some e =>
      have hh := hw.trans (kept_handOff (s := u) e)
      revert hh
      dsimp only
      generalize handOff e u = x
      obtain ⟨v, b⟩ := x
      intro hh
      cases b with
      | true => exact hh.trans (ih v)
      | false => exact hh

/-- An admission pass, with the passes and rounds it leads to, changes only contracts, claims, reliefs, flags, notices,
and the ports' queues and enable outputs (R35 to R38). -/
theorem kept_runPass : s.Kept (runPass s) := kept_admissionPass _ s

theorem kept_budgetWithdraw (fuel : Nat) : ∀ s : State, s.Kept (budgetWithdraw fuel s).1 := by
  induction fuel with
  | zero => exact fun s => .refl s
  | succ fuel ih =>
    intro s
    unfold budgetWithdraw
    split
    · exact .refl s
    · split
      · exact .refl s
      · exact (kept_withdraw _ _).trans (ih _)

theorem kept_budgetShed (fuel : Nat) : ∀ s : State, s.Kept (budgetShed fuel s) := by
  induction fuel with
  | zero => exact fun s => .refl s
  | succ fuel ih =>
    intro s
    unfold budgetShed
    split
    · exact .refl s
    · split
      · exact .refl s
      · exact (kept_issueShed _ _ _ _).trans (ih _)

theorem kept_teardown (i : Slot) : s.Kept (s.teardown i) := (kept_removeSlot i).trans kept_evalFlags

theorem kept_cut (i : Slot) (reason : CutReason) : s.Kept (s.cut i reason) := by
  unfold State.cut
  split
  · exact (((((kept_onPort i _).trans (kept_teardown i)).trans (kept_order i _)).trans (kept_onPort i _)).trans
      (kept_raise _ _ _))
  · exact .refl s

theorem kept_budgetCut (fuel : Nat) : ∀ s : State, s.Kept (budgetCut fuel s).1 := by
  induction fuel with
  | zero => exact fun s => .refl s
  | succ fuel ih =>
    intro s
    unfold budgetCut
    split
    · exact .refl s
    · split
      · exact .refl s
      · exact (kept_cut _ _).trans (ih _)

theorem kept_budgetActs (urgency : Urgency) : s.Kept (budgetActs urgency s).1 := by
  have hw := kept_budgetWithdraw s.adm.contracts.length s
  cases urgency with
  | normal => exact hw.trans (kept_budgetShed _ _)
  | immediate => exact hw.trans (kept_budgetCut _ _)

/-- A budget round changes no more than a pass does, but for the state and penalty end of the slots it cuts (R59). -/
theorem kept_budgetRound (urgency : Urgency) : s.Kept (budgetRound urgency s) := by
  unfold budgetRound
  dsimp only
  split
  · exact (kept_budgetActs urgency).trans kept_runPass
  · exact kept_budgetActs urgency

theorem kept_recheckIf (called : Bool) : s.Kept (recheckIf called s) := by
  unfold recheckIf
  split
  · exact kept_budgetRound .normal
  · exact .refl s

theorem kept_afterClose (wasShedding : Bool) : s.Kept (afterClose wasShedding s) :=
  kept_runPass.trans (kept_recheckIf wasShedding)

theorem kept_tearAndFollow (i : Slot) : s.Kept (tearAndFollow i s) := by
  unfold tearAndFollow
  split
  · exact kept_teardown i
  · exact (kept_teardown i).trans (kept_afterClose _)

theorem kept_cutAndFollow (i : Slot) (reason : CutReason) : s.Kept (cutAndFollow i reason s) := by
  unfold cutAndFollow
  split
  · exact (kept_cut i reason).trans (kept_afterClose _)
  · exact kept_cut i reason

theorem Kept_policy {s t : State} (h : s.Kept t) (i : Slot) : t.policy i = s.policy i := policy_congr h.pol i

end Sys2Proof.Machine
end

