-- ==== Sys2Proof/Laws/PerInstr.lean ====
section
/-!
SUPPORT. The family `FrameLength` over all commands: the frame that carries a well-formed command has 8 to 40 bytes
(12 "The frame": LEN is 4 to 36).
-/

namespace Sys2Proof.Laws

/-- A formed frame has 8 bytes beside its payload. -/
theorem length_formFrame (dst src kind seq : Byte) (payload : List Byte) :
    (Machine.formFrame dst src kind seq payload).length = payload.length + 8 := by
  simp [Machine.formFrame, Machine.frameBody, Machine.bytes2]

/-- The frame that carries a well-formed command, if any, has 8 to 40 bytes. -/
def FrameLength.Statement (c : Instr) : Prop :=
  c.wellFormed = true → ∀ (straps : BitVec 2) (link : Link) (bytes : List Byte),
    Machine.frameOf straps c = some (link, bytes) → 8 ≤ bytes.length ∧ bytes.length ≤ 40

/-- A command carried by a payload of at most 32 bytes. -/
theorem frameLength_of_carrier {c : Instr} {k : Link × Byte × Byte × List Byte} (h : Machine.carrierOf c = some k)
    (hl : k.2.2.2.length ≤ 32) : FrameLength.Statement c := by
  intro _ straps link bytes hf
  simp only [Machine.frameOf, h, Option.map_some, Option.some.injEq, Prod.mk.injEq] at hf
  obtain ⟨-, rfl⟩ := hf
  have hb := length_formFrame (match k.1 with | .slot _ => Machine.slotLinkAddress | .supply => Machine.partAddress straps)
    (Machine.requiredSource k.1 k.2.1) k.2.1 k.2.2.1 k.2.2.2
  constructor
  · exact le_trans (by omega) (ge_of_eq hb)
  · exact le_trans (le_of_eq hb) (by omega)

/-- A command that no frame carries. -/
theorem frameLength_of_none {c : Instr} (h : Machine.carrierOf c = none) : FrameLength.Statement c := by
  intro _ straps link bytes hf
  simp [Machine.frameOf, h] at hf

theorem FrameLength.claim (slot : Slot) (tag : Byte) (want : Half) (least : Half) : FrameLength.Statement (.claim slot tag want least) :=
  frameLength_of_carrier rfl (by simp [Machine.bytes2])

theorem FrameLength.accept (slot : Slot) (tag : Byte) : FrameLength.Statement (.accept slot tag) :=
  frameLength_of_carrier rfl (by simp)

theorem FrameLength.decline (slot : Slot) (tag : Byte) : FrameLength.Statement (.decline slot tag) :=
  frameLength_of_carrier rfl (by simp)

theorem FrameLength.release (slot : Slot) (tag : Byte) : FrameLength.Statement (.release slot tag) :=
  frameLength_of_carrier rfl (by simp)

theorem FrameLength.adjust (slot : Slot) (tag : Byte) (amount : Half) : FrameLength.Statement (.adjust slot tag amount) :=
  frameLength_of_carrier rfl (by simp [Machine.bytes2])

theorem FrameLength.renew (slot : Slot) (tag : Byte) : FrameLength.Statement (.renew slot tag) :=
  frameLength_of_carrier rfl (by simp)

theorem FrameLength.report (slot : Slot) (tag : Byte) (measured : Half) : FrameLength.Statement (.report slot tag measured) :=
  frameLength_of_carrier rfl (by simp [Machine.bytes2])

theorem FrameLength.comply (slot : Slot) (tag : Byte) : FrameLength.Statement (.comply slot tag) :=
  frameLength_of_carrier rfl (by simp)

theorem FrameLength.present (slot : Slot) (cls : Byte) (peak : Half) : FrameLength.Statement (.present slot cls peak) :=
  frameLength_of_carrier rfl (by simp [Machine.bytes2])

theorem FrameLength.data (slot : Slot) (seq : Byte) (payload : List Byte) : FrameLength.Statement (.data slot seq payload) := by
  intro h
  refine frameLength_of_carrier rfl ?_ h
  simp [Instr.wellFormed] at h
  simp
  omega

theorem FrameLength.frameReceiveError (link : Link) (bytes : List Byte) : FrameLength.Statement (.frameReceiveError link bytes) :=
  frameLength_of_none rfl

theorem FrameLength.byteGapTimeout (link : Link) : FrameLength.Statement (.byteGapTimeout link) :=
  frameLength_of_none rfl

theorem FrameLength.budget (seq : Byte) (amount : Half) (urgency : Urgency) : FrameLength.Statement (.budget seq amount urgency) :=
  frameLength_of_carrier rfl (by simp [Machine.bytes2])

theorem FrameLength.noticeAck (seq : Byte) : FrameLength.Statement (.noticeAck seq) :=
  frameLength_of_carrier rfl (by simp)

theorem FrameLength.dataDown (seq : Byte) (slot : Byte) (payload : List Byte) : FrameLength.Statement (.dataDown seq slot payload) := by
  intro h
  refine frameLength_of_carrier rfl ?_ h
  simp [Instr.wellFormed] at h
  simp
  omega

theorem FrameLength.queryStatus (seq : Byte) : FrameLength.Statement (.queryStatus seq) :=
  frameLength_of_carrier rfl (by simp)

theorem FrameLength.readEntry (seq : Byte) (table : Byte) (index : Byte) : FrameLength.Statement (.readEntry seq table index) :=
  frameLength_of_carrier rfl (by simp)

theorem FrameLength.writePolicy (seq : Byte) (slot : Byte) (record : List Byte) : FrameLength.Statement (.writePolicy seq slot record) := by
  intro h
  refine frameLength_of_carrier rfl ?_ h
  simp [Instr.wellFormed] at h
  simp
  omega

theorem FrameLength.discard (seq : Byte) : FrameLength.Statement (.discard seq) :=
  frameLength_of_carrier rfl (by simp)

theorem FrameLength.commit (seq : Byte) : FrameLength.Statement (.commit seq) :=
  frameLength_of_carrier rfl (by simp)

theorem FrameLength.setConfig (seq : Byte) (item : Byte) (body : List Byte) : FrameLength.Statement (.setConfig seq item body) := by
  intro h
  refine frameLength_of_carrier rfl ?_ h
  simp only [Instr.wellFormed, configBodyFits] at h
  split at h <;> simp at h <;> simp <;> omega

theorem FrameLength.clearEvents (seq : Byte) (count : Byte) (kinds : List Byte) : FrameLength.Statement (.clearEvents seq count kinds) := by
  intro h
  refine frameLength_of_carrier rfl ?_ h
  simp [Instr.wellFormed] at h
  simp
  omega

theorem FrameLength.forceShed (seq : Byte) (slot : Byte) (tag : Byte) (target : Half) : FrameLength.Statement (.forceShed seq slot tag target) :=
  frameLength_of_carrier rfl (by simp [Machine.bytes2])

theorem FrameLength.forceClose (seq : Byte) (slot : Byte) (tag : Byte) : FrameLength.Statement (.forceClose seq slot tag) :=
  frameLength_of_carrier rfl (by simp)

theorem FrameLength.forceCut (seq : Byte) (slot : Byte) : FrameLength.Statement (.forceCut seq slot) :=
  frameLength_of_carrier rfl (by simp)

theorem FrameLength.portReset (seq : Byte) (slot : Byte) : FrameLength.Statement (.portReset seq slot) :=
  frameLength_of_carrier rfl (by simp)

theorem FrameLength.storeErase (seq : Byte) (page : Byte) : FrameLength.Statement (.storeErase seq page) :=
  frameLength_of_carrier rfl (by simp)

theorem FrameLength.storeSave (seq : Byte) (page : Byte) : FrameLength.Statement (.storeSave seq page) :=
  frameLength_of_carrier rfl (by simp)

theorem FrameLength.storeLoad (seq : Byte) (page : Byte) : FrameLength.Statement (.storeLoad seq page) :=
  frameLength_of_carrier rfl (by simp)

theorem FrameLength.restart (seq : Byte) : FrameLength.Statement (.restart seq) :=
  frameLength_of_carrier rfl (by simp)

theorem FrameLength.offerDeadline (slot : Slot) (tag : Byte) : FrameLength.Statement (.offerDeadline slot tag) :=
  frameLength_of_none rfl

theorem FrameLength.leaseExpiry (slot : Slot) (tag : Byte) : FrameLength.Statement (.leaseExpiry slot tag) :=
  frameLength_of_none rfl

theorem FrameLength.waitDeadline (slot : Slot) (tag : Byte) : FrameLength.Statement (.waitDeadline slot tag) :=
  frameLength_of_none rfl

theorem FrameLength.staleDeadline : FrameLength.Statement .staleDeadline :=
  frameLength_of_none rfl

theorem FrameLength.shedDeadline (slot : Slot) (tag : Byte) : FrameLength.Statement (.shedDeadline slot tag) :=
  frameLength_of_none rfl

theorem FrameLength.reportDeadline (slot : Slot) (tag : Byte) : FrameLength.Statement (.reportDeadline slot tag) :=
  frameLength_of_none rfl

theorem FrameLength.penaltyEndTime (slot : Slot) : FrameLength.Statement (.penaltyEndTime slot) :=
  frameLength_of_none rfl

theorem FrameLength.probeDeadline (slot : Slot) : FrameLength.Statement (.probeDeadline slot) :=
  frameLength_of_none rfl

theorem FrameLength.answerDeadline (slot : Slot) : FrameLength.Statement (.answerDeadline slot) :=
  frameLength_of_none rfl

theorem FrameLength.retransmitDeadline : FrameLength.Statement .retransmitDeadline :=
  frameLength_of_none rfl

theorem FrameLength.storeEraseCompletion : FrameLength.Statement .storeEraseCompletion :=
  frameLength_of_none rfl

theorem FrameLength.storeSaveCompletion (asWritten : Bool) : FrameLength.Statement (.storeSaveCompletion asWritten) :=
  frameLength_of_none rfl

theorem FrameLength.storeLoadCompletion : FrameLength.Statement .storeLoadCompletion :=
  frameLength_of_none rfl

theorem FrameLength.slotTransmissionBegin (slot : Slot) : FrameLength.Statement (.slotTransmissionBegin slot) :=
  frameLength_of_none rfl

theorem FrameLength.slotTransmissionSent (slot : Slot) : FrameLength.Statement (.slotTransmissionSent slot) :=
  frameLength_of_none rfl

theorem FrameLength.upstreamTransmissionBegin : FrameLength.Statement .upstreamTransmissionBegin :=
  frameLength_of_none rfl

theorem FrameLength.upstreamTransmissionSent : FrameLength.Statement .upstreamTransmissionSent :=
  frameLength_of_none rfl

theorem FrameLength.restartTakesEffect (straps : BitVec 2) (asWritten : BitVec 8) :
    FrameLength.Statement (.restartTakesEffect straps asWritten) :=
  frameLength_of_none rfl

theorem FrameLength.hardReset (straps : BitVec 2) (asWritten : BitVec 8) :
    FrameLength.Statement (.hardReset straps asWritten) :=
  frameLength_of_none rfl

theorem FrameLength.startUpScanEnd : FrameLength.Statement .startUpScanEnd :=
  frameLength_of_none rfl

end Sys2Proof.Laws
end

