-- ==== Sys2Proof/Tests/Slice0.lean ====
section
/-!
SUPPORT. Tests of single commands against the spec's worked sequences and tables, the smoke tests of well-formedness,
and one witness for each statement that has hypotheses.
-/

namespace Sys2Proof.Tests

open Sys2Proof Sys2Proof.Machine

-- The tests are checked one after another: side by side, each would hold a thread of its own while it waits.
set_option Elab.async false

/-! ## Small states -/

/-- A port whose module is known: declared class 5, any peak. -/
def known (state : SlotState) : SlotPort :=
  { resetPort with state := state, joinCount := 2, probeDeadline := some 20, declared := some ⟨5, 0⟩ }

/-- A RUNNING part with every slot PRESENT under the factory record, an announced budget of 1000, and no contract. -/
def base : State :=
  { State.reset with
    part := .running
    ports := Vector.replicate 8 (known .present)
    pol := ⟨Vector.replicate 8 factoryPolicy, Vector.replicate 8 factoryPolicy, false, defaultItems⟩
    bud := ⟨some 1000, some 1, some 2000, false, 1000, 1000, 900, 800, false, false⟩ }

/-- The state with this contract table, its sums and the enable outputs. -/
def withContracts (cs : List Contract) (s : State) : State :=
  let u : State :=
    { s with adm.contracts := cs, adm.committed := totalAmount cs, eng.pledged := totalRelief cs }
  { u with
    bud.overcommit := decide (u.bud.limit < totalAmount cs)
    bud.watermark := watermarkValue u.bud (totalAmount cs)
    ports := u.ports.mapIdx fun i p =>
      { p with enable := p.state == .present && (u.contractsOf (Fin.ofNat 8 i)).any Contract.granted } }

/-- The state with this queue, in arrival order. -/
def withQueue (q : List QueueEntry) (s : State) : State :=
  { s with adm.queue := q, adm.arrival := q.map QueueEntry.key }

/-- The state with a slot's active record changed. -/
def withPolicy (i : Slot) (f : Policy → Policy) (s : State) : State :=
  { s with pol.active := s.pol.active.set i (f (s.policy i)) }

/-- The state with a slot's port changed. -/
def withPort (i : Slot) (f : SlotPort → SlotPort) (s : State) : State := s.onPort i f

/-- The state after a command. -/
def after (c : Instr) (s : State) : State :=
  match exec c s with
  | .next t => t
  | .fault _ | .refused _ => s

def heldOf (i : Slot) (t : Byte) (amount : Nat) : Contract := ⟨i, t, amount, .held ⟨none, 0, none⟩⟩
def offeredOf (i : Slot) (t : Byte) (amount : Nat) (d : Time) : Contract := ⟨i, t, amount, .offered d⟩
def sheddingOf (i : Slot) (t : Byte) (amount target : Nat) (d : Time) : Contract :=
  ⟨i, t, amount, .shedding ⟨none, 0, none⟩ ⟨target, d, false⟩⟩
def entryOf (i : Slot) (t : Byte) (want least : Nat) : QueueEntry := ⟨i, t, want, least, none, false⟩

/-- 01 "Worked sequence: two claims on one budget", at its start. -/
def twoClaims : State :=
  withContracts [heldOf 0 7 700] <|
    withPolicy 2 (fun p => { p with lease := 60, maxContracts := 2 }) <|
      withPolicy 4 (fun p => { p with step := 25, ceiling := 400, maxContracts := 2 }) base

/-- A part with contracts in every state, a queue and two notices. -/
def busy : State :=
  { withQueue [entryOf 4 3 120 60, entryOf 5 9 600 500]
      (withContracts [heldOf 0 7 500, sheddingOf 1 2 300 200 500, offeredOf 2 1 100 250] base) with
    ntc := ⟨0x12, [⟨254, .slotJoined, some (.slot 0), 1, 5, false, .sent 1 (.awaiting 100)⟩,
      ⟨255, .cut, some (.slot 3), 2, 5, false, .waiting⟩], 0⟩ }

/-! ## Well-formedness refuses what no frame carries -/

theorem test_wellFormed_data : (Instr.data 0 1 (List.replicate 32 0)).wellFormed = false := by decide
theorem test_wellFormed_dataDown : (Instr.dataDown 1 0 (List.replicate 32 0)).wellFormed = false := by decide
theorem test_wellFormed_writePolicy : (Instr.writePolicy 1 0 (List.replicate 25 0)).wellFormed = false := by decide
theorem test_wellFormed_setConfig : (Instr.setConfig 1 7 [0]).wellFormed = false := by decide
theorem test_wellFormed_setConfig_mask : (Instr.setConfig 1 9 []).wellFormed = false := by decide
theorem test_wellFormed_clearEvents : (Instr.clearEvents 1 0 (List.replicate 32 0)).wellFormed = false := by decide
theorem test_wellFormed_frameReceiveError : (Instr.frameReceiveError .supply []).wellFormed = false := by decide
theorem test_wellFormed_accepts : (Instr.data 0 1 (List.replicate 31 0)).wellFormed = true := by decide

/-! ## Framing -/

/-- R177: over the nine ASCII bytes "123456789" the check gives 0x29B1. -/
theorem test_crc_check_value :
    crc16 [0x31, 0x32, 0x33, 0x34, 0x35, 0x36, 0x37, 0x38, 0x39] = 0x29B1 := by decide +kernel

/-- 12 "Worked sequence", stage 1: idle bytes are ignored, and a broadcast BUDGET is taken, at address 0x32. -/
theorem test_budget_frame_is_received :
    receiveBytes 2 .supply []
      ([0x00, 0x55] ++ formFrame 0xFF 0x01 0x40 7 [0x03, 0xE8, 0x00]) = ([], [.accepted (.budget 7 1000 .normal)]) := by
  decide +kernel

/-- Stage 2: a command for 0x31 is ignored by the part at 0x32. -/
theorem test_other_address_is_ignored :
    receiveBytes 2 .supply [] (formFrame 0x31 0x02 0x50 7 []) = ([], [.ignored]) := by decide +kernel

/-- The bytes ahead of the CRC of frames sent on a slot link: DST 0x80, SRC 0x00, SEQ 0 (R180, 12 "Kind codes" and
"Payloads of the central kinds"). -/
theorem test_slot_frame_bytes :
    [SlotFrame.order .probe, .order (.offer 1 260 60), .reply (.queued 3 2), .reply (.granted 1 260),
        .reply (.refuse 9 .stale), .order (.shed 7 300 500), .order (.closed 7 .forced), .order (.cut .silence)].map
          (fun f => f.bytes.take (f.bytes.length - 2))
      = [[0xC3, 4, 0x80, 0, 0x20, 0], [0xC3, 9, 0x80, 0, 0x21, 0, 1, 1, 4, 0, 60], [0xC3, 6, 0x80, 0, 0x22, 0, 3, 2],
        [0xC3, 7, 0x80, 0, 0x23, 0, 1, 1, 4], [0xC3, 6, 0x80, 0, 0x24, 0, 9, 13],
        [0xC3, 9, 0x80, 0, 0x25, 0, 7, 1, 44, 1, 244], [0xC3, 6, 0x80, 0, 0x26, 0, 7, 7], [0xC3, 5, 0x80, 0, 0x27, 0, 3]] := by
  decide +kernel

/-- The bytes ahead of the CRC of frames sent on the supply link by the part at 0x32: ACK and NAK, a NOTICE with and
without an origin, DATA_UP (R180, 12 "Payloads of the central kinds"). -/
theorem test_supply_frame_bytes :
    [UpFrame.answer ⟨9, .ack [1, 2]⟩, .answer ⟨9, .nak .exhausted⟩, .dataUp ⟨6, 4, [5]⟩,
        .notice ⟨3, .linkErrors, some .supply, 2, 1, false, .waiting⟩,
        .notice ⟨4, .restarted, none, 1, 65535, false, .waiting⟩].map (fun f => (f.bytes 2).take ((f.bytes 2).length - 2))
      = [[0xC3, 8, 2, 0x32, 0x70, 9, 0, 0, 1, 2], [0xC3, 6, 2, 0x32, 0x70, 9, 1, 12], [0xC3, 6, 2, 0x32, 0x72, 4, 6, 5],
        [0xC3, 9, 2, 0x32, 0x71, 3, 15, 8, 2, 0, 1], [0xC3, 9, 2, 0x32, 0x71, 4, 0, 0xFF, 1, 0xFF, 0xFF]] := by
  decide +kernel

/-! ## One test for each command -/

/-- 01, stage 1: the offer is 260, with the slot's lease. R8's own figures: ceiling room 150 rounds down to 140. -/
theorem test_claim_offers :
    ((after (.claim 2 1 255 101) twoClaims).port 2).orders = [.offer 1 260 60]
      ∧ (let s := withPolicy 3 (fun p => { p with step := 20, ceiling := 500, maxContracts := 4 })
          (withContracts [heldOf 0 1 550, heldOf 3 1 350] { base with bud.limit := 1200 })
        ((after (.claim 3 9 230 90) s).port 3).orders = [.offer 9 140 0]) := by decide +kernel

/-- 01, stage 2: with room 40 the claim of least 75 waits at position 0. -/
theorem test_claim_queues :
    let t := after (.claim 4 3 120 60) (withContracts [heldOf 0 7 700, offeredOf 2 1 260 250] twoClaims)
    t.adm.queue.map (fun e => (e.want, e.least)) = [(125, 75)] ∧ (t.port 4).replies = [.queued 3 0] := by decide +kernel

/-- 01, stage 3: at 90 ms the lease expiry is 60 090 ms, and SLOT_EN2 is asserted. -/
theorem test_accept :
    let t := after (.accept 2 1) { withContracts [offeredOf 2 1 260 250] twoClaims with now := 90 }
    t.adm.contracts = [⟨2, 1, 260, .held ⟨some 60090, 0, none⟩⟩] ∧ (t.port 2).enable = true := by decide +kernel

theorem test_decline :
    let t := after (.decline 2 1) (withContracts [offeredOf 2 1 260 250] twoClaims)
    t.adm.committed = 0 ∧ (t.port 2).replies = [.closed 1 .declined] := by decide +kernel

/-- 01, stage 5: the release lets slot 4's claim in for 125, as an order. -/
theorem test_release :
    let t := after (.release 0 7)
      { withQueue [entryOf 4 3 125 75] (withContracts [heldOf 0 7 700, heldOf 2 1 260] twoClaims) with now := 500 }
    t.adm.contracts = [heldOf 2 1 260, offeredOf 4 3 125 750] ∧ t.adm.committed = 385
      ∧ (t.port 0).replies = [.closed 7 .released] := by decide +kernel

/-- 01, stage 4: a queued claim of equal class bars the increase. -/
theorem test_adjust_barred :
    let t := after (.adjust 2 1 280)
      (withQueue [entryOf 4 3 125 75] (withContracts [heldOf 0 7 700, heldOf 2 1 260] twoClaims))
    (t.port 2).replies = [.refuse 1 .noRoom] ∧ t.adm.committed = 960 := by decide +kernel

theorem test_renew :
    ((after (.renew 2 1) { withContracts [heldOf 2 1 260] twoClaims with now := 10 }).adm.contracts)
      = [⟨2, 1, 260, .held ⟨some 60010, 0, none⟩⟩] := by decide +kernel

/-- R80: an allowance of 100 plus 10 per cent is 110, and 111 is counted. -/
theorem test_report_counts :
    (after (.report 2 1 111) (withContracts [heldOf 2 1 100] base)).adm.contracts
      = [⟨2, 1, 100, .held ⟨none, 1, none⟩⟩] := by decide +kernel

/-- R67: the amount becomes the target, and pledged relief and committed power fall by the same figure. -/
theorem test_comply :
    let t := after (.comply 1 2) (withContracts [sheddingOf 1 2 300 200 500] base)
    t.adm.contracts = [heldOf 1 2 200] ∧ t.adm.committed = 200 ∧ t.eng.pledged = 0 := by decide +kernel

/-- R98: the second answer joins the slot. -/
theorem test_present_joins :
    let t := after (.present 3 5 0) (withPort 3
      (fun p => { p with state := .joining, joinCount := 1, answerDeadline := some 25 }) { base with now := 21 })
    (t.port 3).state = .present ∧ (t.port 3).probeDeadline = some 41 ∧ t.ntc.flags = 0x2 := by decide +kernel

theorem test_data_forwards :
    (after (.data 3 9 [1, 2]) base).forward = [⟨3, 9, [1, 2]⟩] := by decide +kernel

/-- 12 "Worked sequence", stage 3: a SET_CONFIG payload of 2 bytes is a framing error. -/
theorem test_frame_receive_error :
    let t := after (.frameReceiveError .supply (formFrame 0x32 0x02 0x55 1 [7, 0])) { base with straps := 2 }
    t.supply.framingErrors = 1 ∧ t.supply.crcErrors = 0 ∧ t.man.answers = [] := by decide +kernel

/-- R178: a frame among the bytes that passes every check is taken: stage 1 of 12 "Worked sequence", idle bytes first. -/
theorem test_frame_among_bytes_is_taken :
    let t := after (.frameReceiveError .supply ([0x00, 0x55] ++ formFrame 0xFF 0x01 0x40 7 [0x03, 0xE8, 0x00]))
      { base with straps := 2 }
    t.supply.framingErrors = 0 ∧ t.bud.lastSequence = some 7 ∧ t.bud.staleDeadline = some 2000 := by decide +kernel

/-- 12 "Worked sequence", stage 4: a SYNC and a LEN and then silence are one framing error. -/
theorem test_byte_gap :
    (after (.byteGapTimeout .supply) { base with supply.receiver := ⟨[0xC3, 6], some 3⟩ }).supply
      = ⟨1, 0, none, huntingReceiver⟩ := by decide +kernel

/-- R49: the limit is the announced budget less the reserve; R53: its marks at 90 and 80 per cent. -/
theorem test_budget :
    let t := after (.budget 2 2700 .normal) { base with pol.items.reserve := 200 }
    (t.bud.effective, t.bud.limit, t.bud.highMark, t.bud.lowMark) = (2700, 2500, 2250, 2000) := by decide +kernel

/-- R45: a step back of the sequence is not fresh. -/
theorem test_budget_not_fresh : (after (.budget 0 2700 .normal) base).bud = base.bud := by decide +kernel

/-- R154: the next record becomes SENT. -/
theorem test_noticeAck :
    (after (.noticeAck 254) busy).ntc.queue = [⟨255, .cut, some (.slot 3), 2, 5, false, .sent 0 .offered⟩] := by
  decide +kernel

theorem test_dataDown : ((after (.dataDown 4 3 [7]) base).port 3).downstream = [⟨4, [7]⟩] := by decide +kernel

/-- R171: slot 9 is a framing error on the supply link. -/
theorem test_dataDown_no_slot : (after (.dataDown 4 9 [7]) base).supply.framingErrors = 1 := by decide +kernel

/-- R182: RUNNING, no flag, no loaded page here, then the figures of the budget. -/
theorem test_queryStatus :
    (after (.queryStatus 7) base).man.answers
      = [⟨7, .ack ([1, 0, 0xFF, 0x03, 0xE8, 0x03, 0xE8, 0, 0, 0, 0, 0, 0, 0, 0, 0, 0, 0, 0, 0])⟩] := by decide +kernel

/-- R182: CONTRACT index 0: slot 0, tag 7, HELD, no deadline, 700. -/
theorem test_readEntry :
    (after (.readEntry 7 1 0) twoClaims).man.answers
      = [⟨7, .ack ([0, 0, 7, 1, 0, 0x02, 0xBC] ++ List.replicate 13 0)⟩] := by decide +kernel

/-- R134: the index is checked after the table. -/
theorem test_readEntry_checks :
    (after (.readEntry 7 0 99) base).man.answers = [⟨7, .nak .badTable⟩]
      ∧ (after (.readEntry 7 1 24) base).man.answers = [⟨7, .nak .badIndex⟩] := by decide +kernel

/-- 12 "The policy record": the bytes of a factory record with class HIGH. -/
theorem test_writePolicy :
    let record : List Byte := [1, 2, 0, 0, 0x02, 0x58, 0, 0, 0, 10, 1, 0, 0, 0, 30, 0x01, 0xF4, 0, 0, 10, 3, 0, 0, 30, 0, 1]
    let t := after (.writePolicy 7 3 record) base
    t.pol.shadow.get 3 = { factoryPolicy with cls := .high } ∧ t.pol.dirty = true ∧ t.pol.active = base.pol.active := by
  decide +kernel

theorem test_discard :
    (after (.discard 7) { base with pol.shadow := Vector.replicate 8 defaultPolicy, pol.dirty := true }).pol = base.pol := by
  decide +kernel

/-- R118: a disabled slot loses its contract with CLOSED(POLICY). -/
theorem test_commit_disables :
    let s := withContracts [heldOf 0 7 700] base
    let t := after (.commit 7) { s with pol.shadow := s.pol.shadow.set 0 defaultPolicy, pol.dirty := true }
    (t.port 0).state = .disabled ∧ t.adm.contracts = [] ∧ (t.port 0).orders = [.closed 7 .policy]
      ∧ (t.port 0).enable = false := by decide +kernel

/-- R123, R49: RESERVE 200 takes 200 from the limit. -/
theorem test_setConfig_reserve : (after (.setConfig 7 3 [0, 200]) base).bud.limit = 800 := by decide +kernel

/-- R123 check 3: HIGH_MARK stays above LOW_MARK 80. -/
theorem test_setConfig_marks : (after (.setConfig 7 5 [0, 80]) base).man.answers = [⟨7, .nak .badValue⟩] := by decide +kernel

theorem test_clearEvents : (after (.clearEvents 7 1 [4]) busy).ntc.flags = 0x2 := by decide +kernel

/-- R72: the target is taken as given, and the forced mark is set. -/
theorem test_forceShed :
    let t := after (.forceShed 7 0 7 333) twoClaims
    t.adm.contracts = [⟨0, 7, 700, .shedding ⟨none, 0, none⟩ ⟨333, 500, true⟩⟩] ∧ t.eng.pledged = 367
      ∧ (t.port 0).orders = [.shed 7 333 500] := by decide +kernel

theorem test_forceClose :
    let t := after (.forceClose 7 0 7) twoClaims
    t.adm.contracts = [] ∧ (t.port 0).orders = [.closed 7 .forced] := by decide +kernel

/-- R88: the slot loses its contract, goes to PENALTY for 30 s, and CUT is its only order. -/
theorem test_forceCut :
    let t := after (.forceCut 7 0) twoClaims
    t.adm.contracts = [] ∧ (t.port 0).state = .penalty ∧ (t.port 0).penaltyEnd = some 30000
      ∧ (t.port 0).orders = [.cut .forced] := by decide +kernel

theorem test_portReset :
    let t := after (.portReset 7 0) (withPort 0 (fun p => { p with strayFrames := 4, orders := [.probe] }) twoClaims)
    (t.port 0).state = .vacant ∧ (t.port 0).orders = [] ∧ (t.port 0).strayFrames = 0 ∧ t.adm.committed = 0 := by
  decide +kernel

/-- R159: page 0 is PROTECTED. -/
theorem test_storeErase : (after (.storeErase 7 0) base).man.answers = [⟨7, .nak .isProtected⟩]
    ∧ (after (.storeErase 7 3) base).store.op = some (.erase 3) := by decide +kernel

/-- R160: the factory page has generation 0, so the first save is stamped 1, and closed by the check over its contents. -/
theorem test_storeSave :
    (after (.storeSave 7 3) base).store.op = some (.save 3 (.stamped (Vector.replicate 8 factoryPolicy) defaultItems 1)) :=
  rfl

theorem test_storeLoad : (after (.storeLoad 7 3) base).man.answers = [⟨7, .nak .notValid⟩]
    ∧ (after (.storeLoad 7 0) base).store.op = some (.load 0) := by decide +kernel

theorem test_restart : (after (.restart 7) base).man = ⟨some ⟨7, .ack []⟩, [⟨7, .ack []⟩], true⟩ := by decide +kernel

/-- 01, stage 6: at 750 ms the offer closes, as an order. -/
theorem test_offerDeadline :
    let t := after (.offerDeadline 4 3) (withContracts [heldOf 2 1 260, offeredOf 4 3 125 750] twoClaims)
    t.now = 750 ∧ t.adm.committed = 260 ∧ (t.port 4).orders = [.closed 3 .acceptTimeout] := by decide +kernel

theorem test_leaseExpiry :
    let t := after (.leaseExpiry 2 1) (withContracts [⟨2, 1, 260, .held ⟨some 60090, 0, none⟩⟩] twoClaims)
    t.now = 60090 ∧ t.adm.contracts = [] ∧ (t.port 2).orders = [.closed 1 .leaseExpired] := by decide +kernel

/-- R34: REFUSE(WAIT_LIMIT), and QUEUE_TIMEOUT, whose code is 12. -/
theorem test_waitDeadline :
    let t := after (.waitDeadline 4 3) (withQueue [{ entryOf 4 3 125 75 with waitDeadline := some 30000 }] base)
    t.adm.queue = [] ∧ (t.port 4).replies = [.refuse 3 .waitLimit] ∧ t.ntc.flags = 0x1000 := by decide +kernel

/-- R48: SAFE_BUDGET is 0 in the factory image, and BUDGET_STALE's code is 10. -/
theorem test_staleDeadline :
    let t := after .staleDeadline base
    t.bud.stale = true ∧ t.bud.limit = 0 ∧ t.ntc.flags = 0x400 ∧ t.now = 2000 := by decide +kernel

/-- R70: a shed that is not met cuts the slot with SHED_FAILED. -/
theorem test_shedDeadline :
    let t := after (.shedDeadline 1 2) (withContracts [sheddingOf 1 2 300 200 500] base)
    (t.port 1).state = .penalty ∧ (t.port 1).orders = [.cut .shedFailed] := by decide +kernel

/-- R84: under NOTIFY the deadline is restarted, 3 intervals away, and VIOLATION, code 5, is raised. -/
theorem test_reportDeadline :
    let t := after (.reportDeadline 2 1) (withPolicy 2 (fun p => { p with reportInterval := 100 })
      (withContracts [⟨2, 1, 260, .held ⟨none, 2, some 300⟩⟩] base))
    t.adm.contracts = [⟨2, 1, 260, .held ⟨none, 2, some 600⟩⟩] ∧ t.ntc.flags = 0x20 := by decide +kernel

theorem test_penaltyEndTime :
    let t := after (.penaltyEndTime 1) (withPort 1 (fun p => { p with state := .penalty, penaltyEnd := some 30000 }) base)
    (t.port 1).state = .present ∧ (t.port 1).penaltyEnd = none ∧ t.ntc.flags = 0 := by decide +kernel

/-- R96: the window is 5 ms, and the next PROBE is due PROBE_INTERVAL later. -/
theorem test_probeDeadline :
    let t := after (.probeDeadline 1) base
    (t.port 1).orders = [.probe] ∧ (t.port 1).answerDeadline = some 25 ∧ (t.port 1).probeDeadline = some 40 := by
  decide +kernel

/-- R100: the third miss loses the slot, and SLOT_LOST, code 2, tells what it held. -/
theorem test_answerDeadline_loses :
    let t := after (.answerDeadline 0) (withPort 0 (fun p => { p with missCount := 2, answerDeadline := some 25 }) twoClaims)
    (t.port 0).state = .vacant ∧ t.adm.contracts = [] ∧ t.ntc.queue.map (fun n => (n.kind, n.detail)) = [(.slotLost, 1)] := by
  decide +kernel

/-- R153: the record is offered again. -/
theorem test_retransmitDeadline :
    ((after .retransmitDeadline busy).ntc.queue.head?.map (·.state)) = some (.sent 1 .offered) := by decide +kernel

theorem test_storeEraseCompletion :
    let t := after .storeEraseCompletion
      { base with store := { base.store with pages := base.store.pages.set 3 .damaged, op := some (.erase 3) } }
    t.page 3 = .blank ∧ t.store.op = none ∧ t.ntc.flags = 0x2000 := by decide +kernel

theorem test_storeSaveCompletion :
    let t := after (.storeSaveCompletion false) { base with store.op := some (.save 3 factoryImage) }
    t.page 3 = .damaged ∧ t.ntc.flags = 0x4000 := by decide +kernel

theorem test_storeLoadCompletion :
    let t := after .storeLoadCompletion { base with store.op := some (.load 0), pol.items.reserve := 200 }
    t.pol.dirty = true ∧ t.pol.items = defaultItems ∧ t.store.op = none ∧ t.ntc.flags = 0x2000 := by decide +kernel

/-- R108: orders before answers before data. -/
theorem test_slotTransmissionBegin :
    let t := after (.slotTransmissionBegin 1)
      (withPort 1 (fun p => { p with orders := [.probe], replies := [.refuse 1 .stale] }) base)
    ((t.port 1).transmission.map (·.frame)) = some (.order .probe) ∧ (t.port 1).orders = []
      ∧ (t.port 1).replies = [.refuse 1 .stale] := by decide +kernel

theorem test_slotTransmissionSent :
    ((after (.slotTransmissionSent 1) (withPort 1
      (fun p => { p with transmission := some ⟨.order .probe, []⟩ }) base)).port 1).transmission = none := by decide +kernel

/-- R173: an ANSWER goes before the notice and the traffic. -/
theorem test_upstreamTransmissionBegin :
    let t := after .upstreamTransmissionBegin { busy with man.answers := [⟨7, .ack []⟩] }
    (t.supply.transmission.map (·.frame)) = some (.answer ⟨7, .ack []⟩) ∧ t.man.answers = [] := by decide +kernel

/-- R152, R153: 100 ms from the end of the transmission. -/
theorem test_upstreamTransmissionSent :
    let n : Notice := ⟨4, .cut, some (.slot 3), 1, 5, false, .sent 1 .transmitting⟩
    (after .upstreamTransmissionSent
      { base with now := 7, ntc := ⟨0, [n], 5⟩, supply.transmission := some ⟨.notice n, []⟩ }).ntc.queue
      = [{ n with state := .sent 1 (.awaiting 107) }] := by decide +kernel

/-- R141, R165: as a hard reset; page 0 does not read back as written and is DAMAGED. -/
theorem test_restartTakesEffect :
    let t := after (.restartTakesEffect 1 0xFE) { base with man.restartWait := true }
    t.part = .starting ∧ t.straps = 1 ∧ t.ports = State.reset.ports ∧ t.man = resetManagement ∧ t.page 0 = .damaged
      ∧ (after (.restartTakesEffect 1 0xFE) base).part = .running := by decide +kernel

/-- R165: an image whose check agrees with its contents is intact, and its page stays VALID. -/
theorem test_hardReset_keeps_intact_page : (after (.hardReset 2 0xFF) base).page 0 = .valid factoryImage := by
  show Page.scan true (.valid factoryImage) = _
  simp [Page.scan, factoryImage]

/-- R163: the page of a save in progress is DAMAGED. -/
theorem test_hardReset :
    let t := after (.hardReset 2 0xFF) { busy with store.op := some (.save 3 factoryImage) }
    t.part = .starting ∧ t.page 3 = .damaged ∧ t.adm = resetAdmission ∧ t.straps = 2 := by decide +kernel

/-- R166: from the factory page 0 every slot becomes VACANT, and RESTARTED tells page 0. -/
theorem test_startUpScanEnd :
    let t := after .startUpScanEnd State.reset
    t.part = .running ∧ (∀ i, (t.port i).state = .vacant ∧ (t.port i).probeDeadline = some 20)
      ∧ t.store.loadedPage = some 0 ∧ t.ntc.queue.map (fun n => (n.kind, n.detail)) = [(.restarted, 0)] := by decide +kernel

/-! ## The step -/

theorem test_step_takes_the_front :
    step { base with pending := [.discard 7, .restart 8] } = exec (.discard 7) { base with pending := [.restart 8] } := rfl

theorem test_step_idles : step base = .next { base with now := 1 } := rfl

/-! ## Witnesses: states and operands that meet the hypotheses of each statement, clause by clause -/

theorem busy_tables : busy.TablesValid := by unfold State.TablesValid; decide +kernel
theorem busy_accounts : busy.Accounts := by unfold State.Accounts; decide +kernel
theorem busy_queue : busy.QueueOrdered := by unfold State.QueueOrdered; decide +kernel
theorem busy_presence : busy.PresenceHolds := by unfold State.PresenceHolds; decide +kernel
theorem busy_places : busy.WithinPlaces := by unfold State.WithinPlaces; decide +kernel
theorem busy_notices : busy.NoticesOrdered := by unfold State.NoticesOrdered; decide +kernel
theorem busy_store : busy.StoreHolds := ⟨by decide +kernel, by decide +kernel, by decide +kernel, factoryPages_intact⟩
theorem busy_budget : busy.BudgetAgrees := by unfold State.BudgetAgrees; decide +kernel
theorem busy_slots : busy.SlotsShaped := by unfold State.SlotsShaped; decide +kernel
theorem busy_running : busy.StartsClean := by unfold State.StartsClean; decide +kernel
theorem reset_clean : State.reset.StartsClean := by unfold State.StartsClean; decide +kernel

theorem witness_StartingStaysClean : State.reset.StartsClean ∧ ∃ t, step State.reset = .next t := ⟨reset_clean, _, rfl⟩
theorem witness_TablesStayValid : busy.TablesValid ∧ ∃ t, step busy = .next t := ⟨busy_tables, _, rfl⟩
theorem witness_AccountsStayExact : busy.TablesValid ∧ busy.QueueOrdered ∧ busy.Accounts ∧ ∃ t, step busy = .next t :=
  ⟨busy_tables, busy_queue, busy_accounts, _, rfl⟩
theorem witness_QueueStaysOrdered : busy.StartsClean ∧ busy.QueueOrdered ∧ ∃ t, step busy = .next t :=
  ⟨busy_running, busy_queue, _, rfl⟩
theorem witness_GrantsStayWithPresentSlots : busy.StartsClean ∧ busy.PresenceHolds ∧ ∃ t, step busy = .next t :=
  ⟨busy_running, busy_presence, _, rfl⟩
theorem witness_PlacesStayEnough : busy.TablesValid ∧ busy.QueueOrdered ∧ busy.WithinPlaces ∧ ∃ t, step busy = .next t :=
  ⟨busy_tables, busy_queue, busy_places, _, rfl⟩
theorem witness_NoticesStayOrdered : busy.NoticesOrdered ∧ ∃ t, step busy = .next t := ⟨busy_notices, _, rfl⟩
theorem witness_StoreStaysSound : busy.StoreHolds ∧ ∃ t, step busy = .next t := ⟨busy_store, _, rfl⟩
theorem witness_BudgetStaysWorkedOut :
    busy.StartsClean ∧ busy.TablesValid ∧ busy.BudgetAgrees ∧ ∃ t, step busy = .next t :=
  ⟨busy_running, busy_tables, busy_budget, _, rfl⟩
theorem witness_SlotsStayShaped : busy.StartsClean ∧ busy.SlotsShaped ∧ ∃ t, step busy = .next t :=
  ⟨busy_running, busy_slots, _, rfl⟩

/-- A payload of 31 bytes, the longest that DATA has. -/
theorem witness_ReceiverTakesFormedFrame :
    (Instr.data 7 9 (List.replicate 31 0xC3)).wellFormed = true
      ∧ ∃ bytes, frameOf 3 (.data 7 9 (List.replicate 31 0xC3)) = some (.slot 7, bytes) := ⟨by decide, _, rfl⟩

theorem witness_PolicyRecordRoundTrip : factoryPolicy.valid = true := by decide

/-- A least of 300 fits in a room of 300, and 301 rounds up to 310. -/
theorem witness_ClaimThatFitsIsOffered :
    twoClaims.active = true ∧ twoClaims.claimPasses 2 1 300 300 ∧ twoClaims.claimFits 2 300 := by
  unfold State.claimPasses State.claimFits; decide +kernel
theorem witness_ClaimThatWaitsIsQueued :
    twoClaims.active = true ∧ twoClaims.claimPasses 2 1 301 301 ∧ ¬ twoClaims.claimFits 2 301
      ∧ twoClaims.adm.queue.length < Config.queuePlaces := by
  unfold State.claimPasses State.claimFits; decide +kernel

/-- Sixteen claims of slots 0, 1, 3 and 5, the last of class LOW. -/
def fullQueue : State :=
  withPolicy 5 (fun p => { p with cls := .low })
    (withQueue ([0, 1, 3, 5].flatMap fun i => [1, 2, 3, 4].map fun t => entryOf i t 50 50) twoClaims)

theorem witness_ClaimAtFullQueue :
    (fullQueue.active = true ∧ fullQueue.claimPasses 2 1 300 300 ∧ ¬ fullQueue.claimFits 2 300
      ∧ Config.queuePlaces ≤ fullQueue.adm.queue.length ∧ fullQueue.adm.queue.getLast? = some (entryOf 5 4 50 50)
      ∧ fullQueue.entryClass (entryOf 5 4 50 50) < (fullQueue.policy 2).cls.code)
    ∧ let s := withPolicy 5 (fun p => { p with cls := .normal }) fullQueue
      s.active = true ∧ s.claimPasses 2 1 300 300 ∧ ¬ s.claimFits 2 300 ∧ Config.queuePlaces ≤ s.adm.queue.length
        ∧ s.adm.queue.getLast? = some (entryOf 5 4 50 50)
        ∧ ¬ s.entryClass (entryOf 5 4 50 50) < (s.policy 2).cls.code := by
  unfold State.claimPasses State.claimFits; decide +kernel

theorem witness_ClaimRefusalsInOrder :
    base.active = true
      ∧ ((withPort 0 (fun p => { p with state := .penalty }) base).port 0).state = .penalty
      ∧ ((withPort 0 (fun p => { p with state := .mismatch }) base).port 0).state = .mismatch
      ∧ ((withPort 0 (fun p => { p with state := .joining }) base).port 0).state = .joining
      ∧ (base.port 0).state = .present ∧ (twoClaims.tagInUse 0 7 = true)
      ∧ ((twoClaims.policy 0).maxContracts ≤ twoClaims.heldBy 0)
      ∧ (∃ d ∈ ((withPort 0 (fun p => { p with declared := some ⟨5, 99⟩ }) base).port 0).declared, d.peak ≠ 0 ∧ d.peak < 100)
      ∧ (base.policy 0).ceiling < roundUp (base.policy 0).step 601 := by decide +kernel

theorem witness_AcceptAndRenewAnswerGranted :
    (busy.hands 0 ∧ busy.contract? 0 7 = some (heldOf 0 7 500) ∧ (heldOf 0 7 500).granted = true)
      ∧ busy.hands 2 ∧ busy.contract? 2 1 = some (offeredOf 2 1 100 250)
      ∧ ¬ (offeredOf 2 1 100 250).granted = true := by unfold State.hands; decide +kernel

theorem witness_FramesOutOfStateAreRefused :
    busy.hands 0 ∧ busy.contract? 0 9 = none ∧ busy.claim? 0 9 = none
      ∧ busy.hands 2 ∧ busy.contract? 2 1 = some (offeredOf 2 1 100 250)
      ∧ busy.contract? 0 7 = some (heldOf 0 7 500) ∧ roundUp (busy.policy 0).step 0 = 0
      ∧ busy.hands 1 ∧ busy.contract? 1 2 = some (sheddingOf 1 2 300 200 500)
      ∧ 200 < roundUp (busy.policy 1).step 201 := by unfold State.hands; decide +kernel

theorem witness_RemovalOfAContract : busy.contract? 1 2 = some (sheddingOf 1 2 300 200 500) := by decide +kernel

theorem witness_DeclineAndReleaseClose :
    busy.hands 2 ∧ busy.contract? 2 1 = some (offeredOf 2 1 100 250) ∧ (offeredOf 2 1 100 250).isOffered = true
      ∧ busy.hands 0 ∧ busy.contract? 0 7 = some (heldOf 0 7 500) ∧ (heldOf 0 7 500).isShedding = false
      ∧ busy.hands 1 ∧ busy.contract? 1 2 = some (sheddingOf 1 2 300 200 500)
      ∧ (sheddingOf 1 2 300 200 500).isShedding = true
      ∧ busy.hands 4 ∧ busy.contract? 4 3 = none ∧ busy.claim? 4 3 = some (entryOf 4 3 120 60) := by
  unfold State.hands; decide +kernel

/-- HELD 500 under a ceiling of 600 and a room of 100: 601 is too much, 500 and 499 and 600 are not, and a queued claim
of equal class bars 501. -/
theorem witness_HeldContractIsAdjusted :
    let s := withContracts [heldOf 0 7 500, heldOf 1 1 400] base
    let c := heldOf 0 7 500
    s.hands 0 ∧ s.contract? 0 7 = some c ∧ c.state = .held ⟨none, 0, none⟩
      ∧ c.amount + s.ceilingRoom 0 < roundUp (s.policy 0).step 601
      ∧ roundUp (s.policy 0).step 500 = c.amount ∧ roundUp (s.policy 0).step 490 < c.amount
      ∧ (s.bud.overcommit = false ∧ (∀ e ∈ s.adm.queue, s.entryClass e < (s.policy 0).cls.code)
        ∧ roundUp (s.policy 0).step 600 - c.amount ≤ s.room)
      ∧ busy.hands 0 ∧ busy.contract? 0 7 = some c
      ∧ ¬ (∀ e ∈ busy.adm.queue, busy.entryClass e < (busy.policy 0).cls.code) := by
  unfold State.hands; decide +kernel

/-- An amount and a draw at the target of 200. -/
theorem witness_ComplianceByThreeFrames :
    busy.hands 1 ∧ busy.contract? 1 2 = some (sheddingOf 1 2 300 200 500) ∧ roundUp (busy.policy 1).step 200 ≠ 0
      ∧ roundUp (busy.policy 1).step 200 ≤ 200 ∧ (200 : Half).toNat ≤ 200 := by unfold State.hands; decide +kernel

/-- HELD 500 with tolerance 10: 550 is within the allowance and 551 is not; the third in a row is a violation. -/
theorem witness_ReportsAreJudged :
    busy.hands 0 ∧ busy.contract? 0 7 = some (heldOf 0 7 500) ∧ (heldOf 0 7 500).granted = true
      ∧ (550 : Half).toNat ≤ 500 + 500 * (busy.policy 0).tolerance / 100
      ∧ ¬ (551 : Half).toNat ≤ 500 + 500 * (busy.policy 0).tolerance / 100
      ∧ (heldOf 0 7 500).overCount + 1 < (busy.policy 0).debounce
      ∧ (let s := withContracts [⟨0, 7, 500, .held ⟨none, 2, none⟩⟩] base
        s.hands 0 ∧ s.contract? 0 7 = some ⟨0, 7, 500, .held ⟨none, 2, none⟩⟩ ∧ ¬ 2 + 1 < (s.policy 0).debounce
          ∧ (s.policy 0).action = .notify)
      ∧ ((withPolicy 0 (fun p => { p with action := .cut }) base).policy 0).action = .cut
      ∧ 200 < (201 : Half).toNat := by unfold State.hands; decide +kernel

theorem witness_NothingToActOn :
    (List.replicate 31 (0 : Byte)).length ≤ 31 ∧ State.reset.active = false ∧ powerSlot? (.accept 0 7) = some 0
      ∧ base.active = true ∧ ((withPort 0 (fun p => { p with state := .vacant }) base).port 0).state = .vacant
      ∧ ((withPort 0 (fun p => { p with state := .disabled }) base).port 0).state = .disabled
      ∧ base.contract? 0 7 = none ∧ base.claim? 0 7 = none ∧ (State.reset.bud.staleDeadline = none)
      ∧ (base.port 0).penaltyEnd = none ∧ (State.reset.port 0).probeDeadline = none ∧ (base.port 0).answerDeadline = none
      ∧ ((known .mismatch).state ≠ .penalty) ∧ (base.receiver .supply).gapDeadline = none
      ∧ (∀ k ∈ [NoticeState.waiting, .sent 0 .offered, .sent 1 .transmitting], ∀ d, k ≠ .sent 1 (.awaiting d))
      ∧ busy.contract? 2 1 = some (offeredOf 2 1 100 250) ∧ busy.contract? 0 7 = some (heldOf 0 7 500)
      ∧ busy.contract? 1 2 = some (sheddingOf 1 2 300 200 500) ∧ (∀ e ∈ busy.claim? 4 3, e.waitDeadline = none)
      ∧ (base.port 0).transmission = none ∧ base.supply.transmission = none ∧ State.reset.part = .starting
      ∧ base.part = .running ∧ base.store.op = none
      ∧ (∀ p, some (StoreOp.load 3) ≠ some (.erase p)) ∧ (∀ p img, some (StoreOp.load 3) ≠ some (.save p img))
      ∧ ∀ p, some (StoreOp.erase 3) ≠ some (.load p) := by
  refine ⟨?_, ?_, ?_, ?_, ?_, ?_, ?_, ?_, ?_, ?_, ?_, ?_, ?_, ?_, ?_, ?_, ?_, ?_, ?_, ?_, ?_, ?_, ?_, ?_, ?_, ?_, ?_⟩ <;>
    first | decide +kernel | (intro k hk d hd; subst hd; simp at hk) | simp

theorem witness_ExpiriesEndContractsAndClaims :
    let lease : Contract := ⟨0, 7, 500, .shedding ⟨some 60000, 0, none⟩ ⟨200, 500, false⟩⟩
    let wait : QueueEntry := { entryOf 4 3 120 60 with waitDeadline := some 30000 }
    busy.active = true ∧ busy.contract? 2 1 = some (offeredOf 2 1 100 250)
      ∧ (withContracts [lease] base).active = true ∧ (withContracts [lease] base).contract? 0 7 = some lease
      ∧ lease.leaseExpiry? = some 60000 ∧ (withQueue [wait] base).active = true
      ∧ (withQueue [wait] base).claim? 4 3 = some wait := by decide +kernel

theorem witness_MissedDeadlinesArePoliced :
    let c : Contract := ⟨0, 7, 500, .held ⟨none, 1, some 300⟩⟩
    let s := withContracts [c] base
    busy.active = true ∧ busy.contract? 1 2 = some (sheddingOf 1 2 300 200 500)
      ∧ s.active = true ∧ s.contract? 0 7 = some c ∧ c.reportDeadline? = some 300 ∧ (s.policy 0).action = .notify
      ∧ ((withPolicy 0 (fun p => { p with action := .cut }) s).policy 0).action = .cut := by decide +kernel

theorem witness_CutAndTeardownByStages :
    (busy.port 6).state = .present ∧ busy.heldBy 6 = 0 ∧ (busy.port 0).state = .present ∧ busy.heldBy 0 ≠ 0
      ∧ busy.sheds 0 = false ∧ (busy.port 1).state = .present ∧ busy.sheds 1 = true
      ∧ (State.reset.port 0).state ≠ .present := by decide +kernel

/-- After the sequence 1: 2 and 128 are fresh, 1 and 129 are not. -/
theorem witness_BudgetFramesAreTaken :
    base.active = true ∧ (∀ last ∈ base.bud.lastSequence, 1 ≤ ((2 : Byte) - last).toNat ∧ ((2 : Byte) - last).toNat ≤ 127)
      ∧ (∀ last ∈ base.bud.lastSequence, 1 ≤ ((128 : Byte) - last).toNat ∧ ((128 : Byte) - last).toNat ≤ 127)
      ∧ (¬ ∀ last ∈ base.bud.lastSequence, 1 ≤ ((1 : Byte) - last).toNat ∧ ((1 : Byte) - last).toNat ≤ 127)
      ∧ ¬ ∀ last ∈ base.bud.lastSequence, 1 ≤ ((129 : Byte) - last).toNat ∧ ((129 : Byte) - last).toNat ≤ 127 := by
  decide +kernel

theorem witness_StaleBudgetFallsBack : base.active = true ∧ base.bud.staleDeadline = some 2000 := by decide +kernel

/-- Three contracts and a need above the relief of all floors: an offer is withdrawn first. Without offers the next victim
is shed or cut, and without a HELD contract above its floor there is none to shed. -/
theorem witness_RoundsEndWithoutNeedOrVictim :
    let s := { busy with bud.limit := 300 }
    let u := { withContracts [heldOf 0 7 500, sheddingOf 1 2 300 200 500] base with bud.limit := 300 }
    (s.TablesValid ∧ s.QueueOrdered ∧ s.PresenceHolds)
      ∧ s.adm.committed - (s.bud.limit + s.eng.pledged) = 500 ∧ s.withdrawVictim 3 = some (offeredOf 2 1 100 250)
      ∧ (u.TablesValid ∧ u.QueueOrdered ∧ u.PresenceHolds)
      ∧ u.withdrawVictim 3 = none ∧ u.shedVictim 3 = some (heldOf 0 7 500) ∧ u.cutVictim 3 = some (sheddingOf 1 2 300 200 500)
      ∧ u.shedVictim 1 = none ∧ (⟨4, 3, .high, 1⟩ : PreemptRecord).need ≠ 0 := by
  unfold State.TablesValid State.QueueOrdered State.PresenceHolds; decide +kernel

theorem witness_VictimsInOrder :
    busy.withdrawVictim 3 = some (offeredOf 2 1 100 250) ∧ busy.shedVictim 3 = some (heldOf 0 7 500)
      ∧ busy.cutVictim 3 = some (sheddingOf 1 2 300 200 500)
      ∧ base.withdrawVictim 3 = none ∧ base.shedVictim 3 = none ∧ base.cutVictim 3 = none := by decide +kernel

theorem witness_HigherClassesAreSpared :
    let s := withPolicy 0 (fun p => { p with cls := .critical }) busy
    heldOf 0 7 500 ∈ s.adm.contracts ∧ s.contractClass (heldOf 0 7 500) = SlotClass.critical.code
      ∧ SlotClass.critical.code ≤ s.contractClass (heldOf 0 7 500) := by decide +kernel

/-- A walk that ends, one that stops at an entry that may not ask for relief, and one whose hand-off withdraws an offer. -/
theorem witness_PassWalksAndHandsOff :
    let s := withQueue [entryOf 5 9 600 500, entryOf 4 3 120 60]
      (withPolicy 5 (fun p => { p with preempt := true, cls := .high }) busy)
    (∀ e ∈ busy.adm.queue, (busy.policy e.slot).step ∣ e.least) ∧ busy.QueueOrdered
      ∧ (passWalk busy.adm.queue busy).2 = some (entryOf 5 9 600 500) 
      ∧ (handOff (entryOf 5 9 600 500) (passWalk busy.adm.queue busy).1).2 = false
      ∧ base.QueueOrdered ∧ (passWalk base.adm.queue base).2 = none
      ∧ s.QueueOrdered ∧ (∀ e ∈ s.adm.queue, (s.policy e.slot).step ∣ e.least)
      ∧ (passWalk s.adm.queue s).2 = some (entryOf 5 9 600 500)
      ∧ (handOff (entryOf 5 9 600 500) (passWalk s.adm.queue s).1).2 = true := by
  unfold State.QueueOrdered; decide +kernel

theorem witness_PassTestsAndHandOff :
    let s := withPolicy 5 (fun p => { p with preempt := true, cls := .high }) busy
    ((s.policy 5).preempt = true ∧ (s.policy 5).cls ≠ .low ∧ (entryOf 5 9 600 500).reliefRequested = false
      ∧ s.eng.record = none)
    ∧ ({ s with eng.record := some ⟨0, 0, .high, 1⟩ } : State).eng.record ≠ none
    ∧ ¬ ((s.policy 4).preempt = true) := by decide +kernel

theorem witness_PresentFramesAreTaken :
    base.active = true ∧ (base.port 0).state = .present
      ∧ (let s := withPort 0 (fun p => { p with state := .joining, joinCount := 1, answerDeadline := some 5 }) base
        (s.port 0).state = .joining ∧ (s.port 0).answerDeadline ≠ none ∧ s.takesClass 0 5)
      ∧ (let s := withPolicy 0 (fun p => { p with requiredClass := 7 })
          (withPort 0 (fun p => { p with state := .mismatch }) base)
        (s.port 0).state = .mismatch ∧ s.takesClass 0 7 ∧ ¬ s.takesClass 0 5)
      ∧ (let s := withPort 0 (fun p => { p with state := .vacant }) base
        (s.port 0).state = .vacant ∧ (s.port 0).answerDeadline = none) := by
  unfold State.takesClass; decide +kernel

/-- A second and a third miss in a row. -/
theorem witness_ProbesAndWindows :
    base.active = true ∧ (base.port 0).probeDeadline = some 20
      ∧ (let s := withPort 0 (fun p => { p with missCount := 1, answerDeadline := some 5 }) base
        (s.port 0).answerDeadline = some 5 ∧ (s.port 0).state = .present ∧ (s.port 0).missCount + 1 < 3)
      ∧ (let s := withPort 0 (fun p => { p with missCount := 2, answerDeadline := some 5 }) busy
        (s.port 0).answerDeadline = some 5 ∧ (s.port 0).state = .present ∧ ¬ (s.port 0).missCount + 1 < 3)
      ∧ (let s := withPort 0 (fun p => { p with state := .joining, answerDeadline := some 5 }) base
        (s.port 0).answerDeadline = some 5 ∧ (s.port 0).state = .joining)
      ∧ (let s := withPort 0 (fun p => { p with state := .vacant, answerDeadline := some 5 }) base
        (s.port 0).answerDeadline = some 5 ∧ (s.port 0).state = .vacant) := by decide +kernel

theorem witness_PenaltyHoldEnds :
    let s := withPort 0 (fun p => { p with state := .penalty, penaltyEnd := some 30000 }) base
    let m := withPolicy 0 (fun p => { p with requiredClass := 7 }) s
    (s.active = true ∧ (s.port 0).state = .penalty ∧ (s.port 0).penaltyEnd = some 30000
      ∧ (s.port 0).declared = some ⟨5, 0⟩ ∧ s.takesClass 0 5)
    ∧ m.active = true ∧ (m.port 0).state = .penalty ∧ ¬ m.takesClass 0 5 := by
  unfold State.takesClass; decide +kernel

/-- Four tag orders, the oldest for a tag in use: the second is dropped. -/
theorem witness_OrdersTakeTheirPlaces :
    let list : List Order := [.closed 7 .forced, .closed 2 .forced, .closed 3 .forced, .shed 4 1 1]
    let s := withPort 0 (fun p => { p with orders := list }) busy
    ((s.port 0).orders = [.closed 7 .forced] ++ Order.closed 2 .forced :: [.closed 3 .forced, .shed 4 1 1])
      ∧ (∀ x ∈ (s.port 0).orders, x.matter ≠ (Order.closed 9 .forced).matter)
      ∧ (Order.closed 9 .forced).takesTagPlace = true ∧ 4 ≤ ((s.port 0).orders.filter Order.takesTagPlace).length
      ∧ s.tagInUse 0 7 = true ∧ s.tagInUse 0 2 = false
      ∧ (Order.closed 2 .forced).matter = (Order.shed 2 10 500).matter
      ∧ (∀ x ∈ (s.port 0).orders, x.matter ≠ Order.probe.matter) ∧ Order.probe.takesTagPlace = false := by decide +kernel

/-- With three answers waiting a command is executed, with four it is not. -/
theorem witness_CommandsAreTakenOnce :
    let a : Answer := ⟨7, .ack []⟩
    commandSeq? (.discard 7) = some 7 ∧ (Instr.discard 7).wellFormed = true ∧ State.reset.active = false
      ∧ ({ base with man.answers := [a, a, a] } : State).executes 7
      ∧ (({ base with man.answers := [a, a, a, a] } : State).active = true
        ∧ Config.answerPlaces ≤ ({ base with man.answers := [a, a, a, a] } : State).man.answers.length)
      ∧ ({ base with man.cache := some a } : State).active = true
      ∧ ({ base with man.cache := some a } : State).man.cache = some a ∧ a.seq = 7 := by
  unfold State.executes; decide +kernel

theorem base_executes : base.executes 7 := by unfold State.executes; decide +kernel
theorem busy_executes : busy.executes 7 := by unfold State.executes; decide +kernel

theorem witness_ReadsAnswerTheirRecords : busy.executes 7 := busy_executes

theorem witness_ShadowCopyIsWritten :
    base.executes 7 ∧ factoryPolicy.bytes.length = 26 ∧ (7 : Byte).toNat < 8 ∧ ¬ (8 : Byte).toNat < 8
      ∧ Policy.ofBytes? factoryPolicy.bytes = some factoryPolicy
      ∧ (List.replicate 26 (0 : Byte)).length = 26 ∧ Policy.ofBytes? (List.replicate 26 0) = none :=
  ⟨base_executes, by decide +kernel⟩

/-- HIGH_MARK 81 is above LOW_MARK 80, and 80 is not; the codes of the kinds end at 17. -/
theorem witness_ConfigItemsTakeEffect :
    base.executes 7 ∧ ConfigItem.ofCode? 5 = some .highMark
      ∧ ConfigItem.highMark.inRange 81 = true ∧ ConfigItem.highMark.marksOk base.pol.items 81 = true
      ∧ ConfigItem.highMark.marksOk base.pol.items 80 = false ∧ ConfigItem.highMark.inRange 101 = false
      ∧ ConfigItem.ofCode? 3 = some .reserve ∧ ConfigItem.reserve.inRange 65535 = true
      ∧ ConfigItem.ofCode? 7 = some .acceptWindow ∧ ConfigItem.acceptWindow.inRange 10 = true
      ∧ (10 : Byte).toNat > 9 ∧ ([17] : List Byte).length ≤ 30 ∧ (∃ k ∈ ([18] : List Byte), 18 ≤ k.toNat)
      ∧ (¬ ∃ k ∈ ([17] : List Byte), 18 ≤ k.toNat) :=
  ⟨base_executes, by decide +kernel⟩

theorem witness_EventFlagsAreCleared :
    busy.executes 7 ∧ ([17] : List Byte).length ≤ 31 ∧ (1 : Byte).toNat = ([17] : List Byte).length
      ∧ (2 : Byte).toNat ≠ ([17] : List Byte).length ∧ (∃ k ∈ ([18] : List Byte), 18 ≤ k.toNat)
      ∧ ¬ ∃ k ∈ ([17] : List Byte), 18 ≤ k.toNat :=
  ⟨busy_executes, by decide +kernel⟩

theorem witness_CommitRunsItsStages :
    ({ busy with pol.dirty := true } : State).executes 7 ∧ busy.executes 7 ∧ busy.pol.dirty = false
      ∧ (busy.adm.queue.map QueueEntry.key).Nodup ∧ busy.adm.arrival.Perm (busy.adm.queue.map QueueEntry.key)
      ∧ busy.contract? 0 7 = some (heldOf 0 7 500) ∧ busy.contract? 2 1 = some (offeredOf 2 1 100 250)
      ∧ busy.contract? 1 2 = some (sheddingOf 1 2 300 200 500) :=
  ⟨by unfold State.executes; decide +kernel, busy_executes, by decide +kernel⟩

/-- Each branch of a commit's stage for one slot: a PRESENT slot and a VACANT one that are disabled, a DISABLED one that is
enabled, a PRESENT one whose class is no longer taken, and a MISMATCH one whose class now is. -/
theorem witness_CommitAlignsASlot :
    let off := withPolicy 0 (fun _ => defaultPolicy) busy
    let vacant := withPort 0 (fun p => { p with state := .vacant }) off
    let opens := withPort 0 (fun p => { p with state := .disabled }) busy
    let parts := withPolicy 0 (fun p => { p with requiredClass := 7 }) busy
    let joins := withPort 0 (fun p => { p with state := .mismatch }) busy
    (factoryPolicy.enabled = true ∧ (off.policy 0).enabled = false ∧ (off.port 0).state = .present)
      ∧ ((vacant.policy 0).enabled = false ∧ (vacant.port 0).state ≠ .present)
      ∧ (defaultPolicy.enabled = false ∧ (opens.policy 0).enabled = true ∧ (opens.port 0).state = .disabled)
      ∧ ((parts.port 0).state = .present ∧ factoryPolicy.requiredClass ≠ (parts.policy 0).requiredClass
        ∧ ¬ ((parts.policy 0).requiredClass = 0 ∨ ∃ d ∈ (parts.port 0).declared, d.cls = (parts.policy 0).requiredClass))
      ∧ (joins.port 0).state = .mismatch ∧ (joins.policy 0).requiredClass = 0 := by decide +kernel

theorem witness_ForcedCommandsAct :
    busy.executes 7 ∧ busy.contract? 0 7 = some (heldOf 0 7 500) ∧ ¬ 500 ≤ (499 : Half).toNat ∧ 500 ≤ (500 : Half).toNat
      ∧ busy.contract? 1 2 = some (sheddingOf 1 2 300 200 500) ∧ busy.contract? 0 9 = none
      ∧ (busy.port 0).state = .present ∧ ((withPort 0 (fun p => { p with state := .vacant }) base).port 0).state ≠ .present :=
  ⟨busy_executes, by decide +kernel⟩

theorem witness_PortResetClearsASlot : busy.executes 7 ∧ (7 : Byte).toNat < 8 ∧ ¬ (8 : Byte).toNat < 8 :=
  ⟨busy_executes, by decide⟩

/-- The greatest generation of a page that may be followed is 0xFFFFFFFE. -/
theorem witness_StoreCommandsStart :
    let s : State := { base with store.pages := base.store.pages.set 2 (.valid { factoryImage with generation := 0xFFFFFFFF }) }
    base.executes 7 ∧ base.store.op.isSome = false ∧ base.page 0 = .valid factoryImage ∧ base.page 3 = .blank
      ∧ (base.page 3).generation? = none ∧ (s.page 2).generation? = some 0xFFFFFFFF ∧ s.page 2 ≠ .blank
      ∧ (∀ r x, (base.page r).generation? = some x → x ≤ 0) ∧ (base.page 0).generation? = some 0 := by
  refine ⟨base_executes, by decide +kernel, rfl, rfl, rfl, rfl, by decide +kernel, ?_, rfl⟩
  have h : ∀ r, (base.page r).generation? = none ∨ (base.page r).generation? = some 0 := by decide +kernel
  intro r x hx
  rcases h r with h | h <;> simp_all

/-- A save of an image whose check agrees with its contents, and one of an image whose check does not. -/
theorem witness_StoreOperationsComplete :
    ({ base with store.op := some (.erase 3) } : State).store.op = some (.erase 3)
      ∧ ({ base with store.op := some (.save 3 factoryImage) } : State).store.op = some (.save 3 factoryImage)
      ∧ factoryImage.check = Config.imageCheck factoryImage.policies factoryImage.items factoryImage.generation
      ∧ (let odd : Image := { factoryImage with check := factoryImage.check + 1 }
        ¬ odd.check = Config.imageCheck odd.policies odd.items odd.generation)
      ∧ ({ base with store.op := some (.load 0) } : State).page 0 = .valid factoryImage :=
  ⟨rfl, rfl, rfl, Nat.succ_ne_self _, rfl⟩

theorem witness_RestartAndHardReset :
    base.executes 7
      ∧ (let s : State := { base with man.restartWait := true }
        s.man.restartWait = true ∧ s.man.answers = [] ∧ s.supply.transmission = none ∧ ∀ i, (s.port i).transmission = none)
      ∧ base.man.restartWait = false ∧ ({ base with store.op := some (.load 0) } : State).store.op.isSome = true :=
  ⟨base_executes, by decide +kernel⟩

/-- STARTING with every page DAMAGED. -/
def noImages : State := { State.reset with store.pages := Vector.replicate 8 .damaged }

theorem reset_store : State.reset.StoreHolds :=
  ⟨by decide +kernel, by decide +kernel, by decide +kernel, factoryPages_intact⟩
theorem noImages_clean : noImages.StartsClean := by unfold State.StartsClean; decide +kernel
theorem noImages_store : noImages.StoreHolds := by
  refine ⟨by decide +kernel, by decide +kernel, by decide +kernel, fun p => ?_⟩
  fin_cases p <;> rfl

theorem witness_ScanEndStartsThePart :
    (State.reset.part = .starting ∧ State.reset.StartsClean ∧ State.reset.StoreHolds
      ∧ State.reset.page 0 = .valid factoryImage ∧ ∀ r, (State.reset.page r).generation?.all (· ≤ 0) = true)
    ∧ noImages.part = .starting ∧ noImages.StartsClean ∧ noImages.StoreHolds
      ∧ ∀ p, (noImages.page p).generation? = none :=
  ⟨⟨rfl, reset_clean, reset_store, rfl, by decide +kernel⟩, rfl, noImages_clean, noImages_store, by decide +kernel⟩

theorem witness_EventsBecomeNotices :
    busy.NoticesOrdered ∧ base.NoticesOrdered ∧ hasKind busy.pol.items.eventMask .linkErrors = true
      ∧ hasKind busy.pol.items.eventMask .cut = false
      ∧ busy.ntc.queue.any (Notice.waitsFor .cut (some (.slot 3))) = true
      ∧ busy.ntc.queue.any (Notice.waitsFor .cut (some (.slot 4))) = false :=
  ⟨busy_notices, by unfold State.NoticesOrdered; decide +kernel, by decide +kernel⟩

theorem witness_NoticesAreAcknowledgedOrGivenUp :
    let last : State := { busy with ntc.queue := [⟨255, .cut, none, 1, 5, false, .sent 4 (.awaiting 100)⟩] }
    (busy.active = true ∧ busy.NoticesOrdered
      ∧ busy.ntc.queue.head? = some ⟨254, .slotJoined, some (.slot 0), 1, 5, false, .sent 1 (.awaiting 100)⟩)
    ∧ last.active = true ∧ last.NoticesOrdered ∧ base.active = true ∧ base.NoticesOrdered ∧ base.ntc.queue = [] := by
  unfold State.NoticesOrdered; decide +kernel

/-- The forward queue at 31 and at 32, a slot that relays and one that does not, and the first slot byte above 7. -/
theorem witness_TrafficIsRelayedOrDropped :
    let d : DataUp := ⟨0, 0, []⟩
    (List.replicate 31 (0 : Byte)).length ≤ 31 ∧ base.hands 3 ∧ base.relayed 3
      ∧ (List.replicate 31 d).length < 32 ∧ ¬ ({ base with forward := List.replicate 32 d } : State).forward.length < 32
      ∧ ¬ (withPolicy 3 (fun p => { p with forward := false }) base).relayed 3
      ∧ (base.port 3).downstream.length < 4 ∧ base.active = true ∧ (3 : Byte).toNat = 3 ∧ 8 ≤ (8 : Byte).toNat := by
  unfold State.hands State.relayed; decide +kernel

theorem witness_ReceiveErrorsAreCounted :
    base.active = true ∧ (∀ i, Link.slot 7 = .slot i → (base.port i).state ≠ .disabled)
      ∧ (base.receiver .supply).bytes = [] ∧ (List.replicate 32 (0 : Byte)).length ≤ 32
      ∧ [0, 0] ≠ bytes2 (crc16 [4, 0x30, 0x02, 0x50, 1]).toNat
      ∧ (0x30 : Byte) = 0x30 + base.straps.zeroExtend 8 ∧ (0x31 : Byte) ≠ 0x30 + base.straps.zeroExtend 8
      ∧ (0x50 : Byte) ≠ 0x40 ∧ (3 : Byte).toNat < 4 ∧ 36 < (37 : Byte).toNat
      ∧ (({ base with supply.receiver := ⟨[0xC3], some 3⟩ } : State).receiver .supply).gapDeadline = some 3 := by
  decide +kernel

theorem witness_SlotLinkSendsInPrecedence :
    base.active = true ∧ (base.port 0).transmission = none
      ∧ ({ base with man.restartWait := true } : State).man.restartWait = true
      ∧ ((withPort 0 (fun p => { p with transmission := some ⟨.order .probe, []⟩ }) base).port 0).transmission ≠ none := by
  decide +kernel

theorem witness_SupplyLinkSendsInPrecedence :
    busy.part = .running ∧ busy.NoticesOrdered ∧ busy.supply.transmission = none ∧ busy.man.answers = []
      ∧ ({ busy with supply.transmission := some ⟨.answer ⟨1, .ack []⟩, []⟩ } : State).supply.transmission ≠ none :=
  ⟨by decide +kernel, busy_notices, by decide +kernel⟩

end Sys2Proof.Tests
end

/-!
# Contracts, the queue and the places

What every command does to the contract table, the pending claim queue and the sums over them is a chain of `Move`s
(`exec_outcome`); the laws of the accounts, the service order and the places are shown once for each move. After that
come the power frames case by case, the expiries, the commands that find nothing to act on, the reset values, and a
commit at one slot.
-/

namespace Sys2Proof.Machine

-- The theorems are checked one after another: side by side, each would hold a thread of its own while it waits.
set_option Elab.async false

open Config

/-! ## Lists in which the first match changes or leaves -/

theorem map_modifyFirst {α β : Type} {p : α → Bool} {f : α → α} {g : α → β} (h : ∀ a, g (f a) = g a) (l : List α) :
    (modifyFirst p f l).map g = l.map g := by
  induction l with
  | nil => rfl
  | cons a r ih => unfold modifyFirst; split <;> simp [h, ih]

theorem sum_modifyFirst {α : Type} {p : α → Bool} {f : α → α} {g : α → Nat} {l : List α} {a : α}
    (h : l.find? p = some a) : ((modifyFirst p f l).map g).sum + g a = (l.map g).sum + g (f a) := by
  induction l with
  | nil => simp at h
  | cons b r ih =>
    by_cases hb : p b
    · obtain rfl : b = a := by simpa [hb] using h
      simp [modifyFirst, hb]
      omega
    · have := ih (by simpa [hb] using h)
      simp [modifyFirst, hb]
      omega

theorem sum_eraseP {α : Type} {p : α → Bool} {g : α → Nat} {l : List α} {a : α}
    (h : l.find? p = some a) : ((l.eraseP p).map g).sum + g a = (l.map g).sum := by
  induction l with
  | nil => simp at h
  | cons b r ih =>
    by_cases hb : p b
    · obtain rfl : b = a := by simpa [hb] using h
      simp [hb]
      omega
    · have := ih (by simpa [hb] using h)
      simp [hb]
      omega

theorem mem_of_mem_modifyFirst {α : Type} {p : α → Bool} {f : α → α} {l : List α} {x : α}
    (h : x ∈ modifyFirst p f l) : x ∈ l ∨ ∃ a, l.find? p = some a ∧ x = f a := by
  induction l with
  | nil => simp [modifyFirst] at h
  | cons b r ih =>
    by_cases hb : p b <;> simp only [modifyFirst, hb, if_true, if_false, Bool.false_eq_true, List.mem_cons] at h
    · rcases h with rfl | h
      · exact .inr ⟨b, by simp [hb], rfl⟩
      · exact .inl (by simp [h])
    · rcases h with rfl | h
      · exact .inl (by simp)
      · rcases ih h with h | ⟨a, ha, rfl⟩
        · exact .inl (by simp [h])
        · exact .inr ⟨a, by simpa [hb] using ha, rfl⟩

theorem sublist_modifyFirst {α : Type} {p : α → Bool} {f : α → α} {a : α} (ha : p a = true) {r l : List α}
    (h : List.Sublist (a :: r) l) : r.Sublist (modifyFirst p f l) := by
  induction l with
  | nil => cases h
  | cons b l ih =>
    unfold modifyFirst
    cases h with
    | cons _ h =>
      split
      · exact ((List.sublist_cons_self a r).trans h).cons _
      · exact (ih h).cons _
    | cons_cons _ h => simpa [ha] using h.cons (f a)

theorem sublist_eraseP {α : Type} {p : α → Bool} {a : α} (ha : p a = true) {r l : List α}
    (h : List.Sublist (a :: r) l) : r.Sublist (l.eraseP p) := by
  simpa [ha] using h.eraseP (p := p)

theorem length_eraseP_of_mem_of {α : Type} {p : α → Bool} {a : α} {l : List α} (ha : a ∈ l) (hp : p a = true) :
    (l.eraseP p).length + 1 = l.length := by
  have := List.length_eraseP_of_mem ha hp
  have := List.length_pos_of_mem ha
  omega

/-- Leaving elements out of a list without duplicates keeps the order of those that stay. -/
theorem idxOf_lt_of_sublist {α : Type} [BEq α] [LawfulBEq α] {l' l : List α} (h : l'.Sublist l) (hn : l.Nodup) {a b : α}
    (ha : a ∈ l') (hb : b ∈ l') (hab : l.idxOf a < l.idxOf b) : l'.idxOf a < l'.idxOf b := by
  induction h with
  | slnil => simp at ha
  | cons y h ih =>
    have hy : ∀ x ∈ _, y ≠ x := fun x hx e => (List.nodup_cons.1 hn).1 (e ▸ h.subset hx)
    simp only [List.idxOf_cons_ne _ (hy a ha), List.idxOf_cons_ne _ (hy b hb)] at hab
    exact ih (List.nodup_cons.1 hn).2 ha hb (by omega)
  | cons_cons y h ih =>
    by_cases hyb : y = b
    · subst hyb; simp at hab
    by_cases hya : y = a
    · subst hya; simp [List.idxOf_cons_ne _ hyb]
    have ha' := (List.mem_cons.1 ha).resolve_left (Ne.symm hya)
    have hb' := (List.mem_cons.1 hb).resolve_left (Ne.symm hyb)
    simp only [List.idxOf_cons_ne _ hya, List.idxOf_cons_ne _ hyb] at hab ⊢
    have := ih (List.nodup_cons.1 hn).2 ha' hb' (by omega)
    omega

/-! ## Pairs of slot and tag -/

theorem Contract.isOf_eq (i : Slot) (t : Byte) : Contract.isOf i t = (· == (i, t)) ∘ Contract.key := rfl

theorem QueueEntry.isOf_eq (i : Slot) (t : Byte) : QueueEntry.isOf i t = (· == (i, t)) ∘ QueueEntry.key := rfl

theorem Contract.isOf_iff {i : Slot} {t : Byte} {c : Contract} : c.isOf i t = true ↔ c.key = (i, t) := by
  simp [Contract.isOf_eq]

theorem QueueEntry.isOf_iff {i : Slot} {t : Byte} {e : QueueEntry} : e.isOf i t = true ↔ e.key = (i, t) := by
  simp [QueueEntry.isOf_eq]

@[simp] theorem Contract.isOf_self (c : Contract) : c.isOf c.slot c.tag = true := Contract.isOf_iff.2 rfl
@[simp] theorem QueueEntry.isOf_self (e : QueueEntry) : e.isOf e.slot e.tag = true := QueueEntry.isOf_iff.2 rfl

theorem map_key_eraseP_queue (i : Slot) (t : Byte) (l : List QueueEntry) :
    (l.eraseP (QueueEntry.isOf i t)).map QueueEntry.key = (l.map QueueEntry.key).erase (i, t) := by
  rw [List.erase_eq_eraseP', List.eraseP_map, QueueEntry.isOf_eq]

theorem map_key_filter_queue (i : Slot) (l : List QueueEntry) :
    (l.filter (·.slot != i)).map QueueEntry.key = (l.map QueueEntry.key).filter (·.1 != i) := by
  rw [List.filter_map]; rfl

variable {s t u : State}

theorem tagInUse_eq_false {i : Slot} {g : Byte} (h : s.tagInUse i g = false) :
    (i, g) ∉ s.adm.contracts.map Contract.key ∧ (i, g) ∉ s.adm.queue.map QueueEntry.key := by
  simp only [State.tagInUse, Contract.isOf_eq, QueueEntry.isOf_eq, Bool.or_eq_false_iff, List.any_eq_false] at h
  constructor <;> rw [List.mem_map] <;> rintro ⟨x, hx, he⟩
  · exact h.1 x hx (by simp [he])
  · exact h.2 x hx (by simp [he])

/-- The pairs with this slot among some pairs. -/
theorem heldBy_eq (i : Slot) : s.heldBy i =
    ((s.adm.contracts.map Contract.key).countP (·.1 == i)) + ((s.adm.queue.map QueueEntry.key).countP (·.1 == i)) := by
  simp only [State.heldBy, State.contractsOf, State.claimsOf, List.countP_map, ← List.countP_eq_length_filter]
  rfl

/-! ## The service order -/

/-- The present class of a slot. -/
def State.classOf (s : State) (i : Slot) : Nat := (s.policy i).cls.code

/-- The service order on pairs (R28): higher class first, equal classes by arrival. -/
def before (cls : Slot → Nat) (arrival : List (Slot × Byte)) (a b : Slot × Byte) : Prop :=
  cls b.1 < cls a.1 ∨ cls b.1 = cls a.1 ∧ arrival.idxOf a < arrival.idxOf b

/-- R3, and the arrival order holding exactly the queue's pairs: the half of `QueueOrdered` that no policy touches. -/
def State.KeysSound (s : State) : Prop :=
  (s.adm.contracts.map Contract.key ++ s.adm.queue.map QueueEntry.key).Nodup
    ∧ s.adm.arrival.Perm (s.adm.queue.map QueueEntry.key)

/-- R28: the queue stands in service order. -/
def State.InService (s : State) : Prop := (s.adm.queue.map QueueEntry.key).Pairwise (before s.classOf s.adm.arrival)

theorem servedBefore_iff {a b : QueueEntry} :
    s.servedBefore a b = true ↔ before s.classOf s.adm.arrival a.key b.key := by
  simp only [State.servedBefore, Bool.or_eq_true, Bool.and_eq_true, decide_eq_true_eq, beq_iff_eq]
  rfl

theorem queueOrdered_iff : s.QueueOrdered ↔ s.KeysSound ∧ s.InService := by
  unfold State.QueueOrdered State.KeysSound State.InService
  simp only [and_assoc, List.pairwise_map, servedBefore_iff]

theorem State.KeysSound.contracts_nodup (h : s.KeysSound) : (s.adm.contracts.map Contract.key).Nodup :=
  (List.nodup_append.1 h.1).1

theorem State.KeysSound.queue_nodup (h : s.KeysSound) : (s.adm.queue.map QueueEntry.key).Nodup :=
  (List.nodup_append.1 h.1).2.1

theorem State.KeysSound.arrival_nodup (h : s.KeysSound) : s.adm.arrival.Nodup := h.2.nodup_iff.2 h.queue_nodup

/-- R3: a pair names the one contract that has it. -/
theorem contract?_of_mem (h : s.KeysSound) {c : Contract} (hc : c ∈ s.adm.contracts) :
    s.contract? c.slot c.tag = some c := by
  unfold State.contract?
  cases hf : s.adm.contracts.find? (Contract.isOf c.slot c.tag) with
  | none => exact absurd (Contract.isOf_self c) (by simpa using List.find?_eq_none.1 hf c hc)
  | some d =>
    have hd : d.key = c.key := Contract.isOf_iff.1 (List.find?_some hf)
    rw [List.inj_on_of_nodup_map h.contracts_nodup (List.mem_of_find?_eq_some hf) hc hd]

/-- R3: a pair names the one queued claim that has it. -/
theorem claim?_of_mem (h : s.KeysSound) {e : QueueEntry} (he : e ∈ s.adm.queue) : s.claim? e.slot e.tag = some e := by
  unfold State.claim?
  cases hf : s.adm.queue.find? (QueueEntry.isOf e.slot e.tag) with
  | none => exact absurd (QueueEntry.isOf_self e) (by simpa using List.find?_eq_none.1 hf e he)
  | some d =>
    have hd : d.key = e.key := QueueEntry.isOf_iff.1 (List.find?_some hf)
    rw [List.inj_on_of_nodup_map h.queue_nodup (List.mem_of_find?_eq_some hf) he hd]

theorem before_of_sublist {cls : Slot → Nat} {l' l : List (Slot × Byte)} (h : l'.Sublist l) (hn : l.Nodup)
    {a b : Slot × Byte} (ha : a ∈ l') (hb : b ∈ l') (hab : before cls l a b) : before cls l' a b := by
  rcases hab with hab | ⟨hc, hi⟩
  · exact .inl hab
  · exact .inr ⟨hc, idxOf_lt_of_sublist h hn ha hb hi⟩

/-- Pairs that leave both orders leave the rest in service order. -/
theorem pairwise_before_of_sublist {cls : Slot → Nat} {q' q l' l : List (Slot × Byte)} (hq : q'.Sublist q)
    (hl : l'.Sublist l) (hn : l.Nodup) (hp : l'.Perm q') (h : q.Pairwise (before cls l)) :
    q'.Pairwise (before cls l') :=
  (h.sublist hq).imp_of_mem fun ha hb hab => before_of_sublist hl hn (hp.mem_iff.2 ha) (hp.mem_iff.2 hb) hab

theorem before_append {cls : Slot → Nat} {l m : List (Slot × Byte)} {a b : Slot × Byte} (ha : a ∈ l) (hb : b ∈ l)
    (hab : before cls l a b) : before cls (l ++ m) a b := by
  simpa only [before, List.idxOf_append_of_mem ha, List.idxOf_append_of_mem hb] using hab

theorem insertEntry_perm (s : State) (e : QueueEntry) (q : List QueueEntry) : (s.insertEntry e q).Perm (e :: q) := by
  induction q with
  | nil => exact .refl _
  | cons x r ih =>
    unfold State.insertEntry
    split
    · exact (ih.cons x).trans (.swap e x r)
    · exact .refl _

/-- R29: an entry that arrived after all the others takes its place in the service order. -/
theorem pairwise_insertEntry {arrival : List (Slot × Byte)} {e : QueueEntry} {q : List QueueEntry}
    (hq : (q.map QueueEntry.key).Pairwise (before s.classOf arrival))
    (he : ∀ x ∈ q, arrival.idxOf x.key < arrival.idxOf e.key) :
    ((s.insertEntry e q).map QueueEntry.key).Pairwise (before s.classOf arrival) := by
  induction q with
  | nil => simp [State.insertEntry]
  | cons x r ih =>
    have hx := (List.pairwise_cons.1 hq).1
    have hr := (List.pairwise_cons.1 hq).2
    unfold State.insertEntry
    split
    · next hle =>
      rw [List.map_cons, List.pairwise_cons]
      refine ⟨fun k hk => ?_, ih hr fun y hy => he y (by simp [hy])⟩
      rw [((insertEntry_perm s e r).map QueueEntry.key).mem_iff, List.map_cons, List.mem_cons] at hk
      rcases hk with rfl | hk
      · rcases Nat.lt_or_eq_of_le hle with h | h
        · exact .inl h
        · exact .inr ⟨h, he x (by simp)⟩
      · exact hx k hk
    · next hlt =>
      have hxe : s.classOf x.key.1 < s.classOf e.key.1 := Nat.lt_of_not_le hlt
      rw [List.map_cons, List.pairwise_cons]
      refine ⟨fun k hk => .inl ?_, hq⟩
      rw [List.map_cons, List.mem_cons] at hk
      rcases hk with rfl | hk
      · exact hxe
      · rcases hx k hk with h | ⟨h, -⟩ <;> omega

/-! ## The changes the tables can go through

Every command is a chain of the `Move`s below: what it does to the contract table, the queue, the arrival order, the
committed power and the pledged relief is said there once, and each law is shown once for each move. -/

/-- R113: both copies of the policy hold valid records. -/
def State.RecordsValid (s : State) : Prop :=
  (∀ i, (s.policy i).valid = true) ∧ ∀ i, (s.pol.shadow.get i).valid = true

/-- What the accounts rest on: valid records and unique pairs. -/
def State.Sound (s : State) : Prop := s.RecordsValid ∧ s.KeysSound

/-- A change beside the tables: the active records are as they were, records stay valid, and no queue of a port, no
answer queue and no forward queue outgrows its places by it. -/
structure State.Beside (s t : State) : Prop where
  active : t.pol.active = s.pol.active
  records : s.RecordsValid → t.RecordsValid
  ports : ∀ i, (s.port i).withinPlaces = true → (t.port i).withinPlaces = true
  answers : t.man.answers.length ≤ s.man.answers.length
  forward : s.forward.length ≤ forwardPlaces → t.forward.length ≤ forwardPlaces

/-- A claim leaves both orders of the queue. -/
def State.left (s : State) (i : Slot) (g : Byte) : State :=
  { s with
    adm.queue := s.adm.queue.eraseP (QueueEntry.isOf i g)
    adm.arrival := s.adm.arrival.erase (i, g) }

/-- A claim enters both orders of the queue. -/
def State.placed (s : State) (e : QueueEntry) : State :=
  { s with adm.queue := s.insertEntry e s.adm.queue, adm.arrival := s.adm.arrival ++ [e.key] }

/-- An OFFERED contract enters the table. -/
def State.offered (s : State) (i : Slot) (g : Byte) (amount : Nat) (deadline : Time) : State :=
  { s with
    adm.contracts := s.adm.contracts ++ [⟨i, g, amount, .offered deadline⟩]
    adm.committed := s.adm.committed + amount }

/-- A contract leaves the table, with its amount and its relief. -/
def State.dropped (s : State) (i : Slot) (g : Byte) (c : Contract) : State :=
  { s with
    adm.contracts := s.adm.contracts.eraseP (Contract.isOf i g)
    adm.committed := s.adm.committed - c.amount
    eng.pledged := s.eng.pledged - c.relief }

/-- A contract changes, with committed power and pledged relief. -/
def State.altered (s : State) (i : Slot) (g : Byte) (f : Contract → Contract) (committed pledged : Nat) : State :=
  { s with
    adm.contracts := modifyFirst (Contract.isOf i g) f s.adm.contracts
    adm.committed := committed
    eng.pledged := pledged }

/-- Every contract and claim of a slot leaves. -/
def State.cleared (s : State) (i : Slot) : State :=
  { s with
    adm.contracts := s.adm.contracts.filter (·.slot != i)
    adm.queue := s.adm.queue.filter (·.slot != i)
    adm.arrival := s.adm.arrival.filter (·.1 != i)
    adm.committed := s.adm.committed - totalAmount (s.contractsOf i)
    eng.pledged := s.eng.pledged - totalRelief (s.contractsOf i) }

/-- One change of the tables, with what the part has checked when it makes it. -/
inductive State.Move (s : State) : State → Prop
  | aside {t : State} (h : s.Beside t) (hadm : t.adm = s.adm) (hpledged : t.eng.pledged = s.eng.pledged) : Move s t
  | drop {i : Slot} {g : Byte} {c : Contract} (h : s.contract? i g = some c) : Move s (s.dropped i g c)
  | alter {i : Slot} {g : Byte} {c : Contract} {f : Contract → Contract} {committed pledged : Nat}
      (h : s.contract? i g = some c) (hkey : ∀ d, (f d).key = d.key)
      (hbal : s.Sound → c.targetBelow = true → (f c).targetBelow = true
        ∧ committed = s.adm.committed + (f c).amount - c.amount ∧ pledged = s.eng.pledged + (f c).relief - c.relief) :
      Move s (s.altered i g f committed pledged)
  | offer {i : Slot} {g : Byte} {amount : Nat} {deadline : Time} (hnew : s.tagInUse i g = false)
      (hheld : s.RecordsValid → s.heldBy i < 4) (hroom : s.adm.contracts.length < contractPlaces) :
      Move s (s.offered i g amount deadline)
  | leave (i : Slot) (g : Byte) : Move s (s.left i g)
  | grant {e : QueueEntry} {amount : Nat} {deadline : Time} (he : e ∈ s.adm.queue)
      (hroom : s.adm.contracts.length < contractPlaces) :
      Move s ((s.left e.slot e.tag).offered e.slot e.tag amount deadline)
  | mark {i : Slot} {g : Byte} {f : QueueEntry → QueueEntry} (hkey : ∀ e, (f e).key = e.key) :
      Move s { s with adm.queue := modifyFirst (QueueEntry.isOf i g) f s.adm.queue }
  | place {e : QueueEntry} (hnew : s.tagInUse e.slot e.tag = false) (hheld : s.RecordsValid → s.heldBy e.slot < 4)
      (hroom : s.adm.queue.length < queuePlaces) : Move s (s.placed e)
  | displace {last e : QueueEntry} (hlast : last ∈ s.adm.queue) (hnew : s.tagInUse e.slot e.tag = false)
      (hheld : s.RecordsValid → s.heldBy e.slot < 4) : Move s ((s.left last.slot last.tag).placed e)
  | clear (i : Slot) : Move s (s.cleared i)

/-- A chain of changes of the tables. -/
def State.Moves : State → State → Prop := Relation.ReflTransGen State.Move

/-! ## What a move leaves alone -/

theorem State.Move.records (h : s.Move t) (hs : s.RecordsValid) : t.RecordsValid := by
  cases h with
  | aside h => exact h.records hs
  | _ => exact hs

theorem State.Move.ports (h : s.Move t) (i : Slot) (hs : (s.port i).withinPlaces = true) :
    (t.port i).withinPlaces = true := by
  cases h with
  | aside h => exact h.ports i hs
  | _ => exact hs

theorem State.Move.answers (h : s.Move t) : t.man.answers.length ≤ s.man.answers.length := by
  cases h with
  | aside h => exact h.answers
  | _ => exact le_refl _

theorem State.Move.forward (h : s.Move t) (hs : s.forward.length ≤ forwardPlaces) : t.forward.length ≤ forwardPlaces := by
  cases h with
  | aside h => exact h.forward hs
  | _ => exact hs

/-! ## Unique pairs (R3) -/

theorem keysSound_of_adm (h : t.adm = s.adm) (hs : s.KeysSound) : t.KeysSound := by
  unfold State.KeysSound; rwa [h]

theorem keysSound_left (i : Slot) (g : Byte) (hs : s.KeysSound) : (s.left i g).KeysSound := by
  refine ⟨?_, ?_⟩
  · show (_ ++ ((s.adm.queue.eraseP (QueueEntry.isOf i g)).map QueueEntry.key)).Nodup
    exact hs.1.sublist ((List.Sublist.refl _).append (List.eraseP_sublist.map _))
  · show (s.adm.arrival.erase (i, g)).Perm ((s.adm.queue.eraseP (QueueEntry.isOf i g)).map QueueEntry.key)
    rw [map_key_eraseP_queue]
    exact hs.2.erase _

theorem keysSound_placed {e : QueueEntry} (hs : s.KeysSound)
    (hnew : e.key ∉ s.adm.contracts.map Contract.key ++ s.adm.queue.map QueueEntry.key) : (s.placed e).KeysSound := by
  have hp := (insertEntry_perm s e s.adm.queue).map QueueEntry.key
  refine ⟨?_, ?_⟩
  · show (s.adm.contracts.map Contract.key ++ (s.insertEntry e s.adm.queue).map QueueEntry.key).Nodup
    rw [(hp.append_left _).nodup_iff, List.map_cons, List.perm_middle.nodup_iff]
    exact List.nodup_cons.2 ⟨hnew, hs.1⟩
  · show (s.adm.arrival ++ [e.key]).Perm ((s.insertEntry e s.adm.queue).map QueueEntry.key)
    exact (List.perm_append_singleton _ _).trans ((hs.2.cons _).trans hp.symm)

theorem keysSound_offered {i : Slot} {g : Byte} {amount : Nat} {deadline : Time} (hs : s.KeysSound)
    (hnew : (i, g) ∉ s.adm.contracts.map Contract.key ++ s.adm.queue.map QueueEntry.key) :
    (s.offered i g amount deadline).KeysSound := by
  refine ⟨?_, hs.2⟩
  show ((s.adm.contracts ++ [_]).map Contract.key ++ s.adm.queue.map QueueEntry.key).Nodup
  rw [List.map_append, List.append_assoc]
  exact List.perm_middle.nodup_iff.2 (List.nodup_cons.2 ⟨hnew, hs.1⟩)

/-- A pair that has left the queue names nothing any more. -/
theorem fresh_left {i : Slot} {g : Byte} (hs : s.KeysSound) (h : (i, g) ∉ s.adm.contracts.map Contract.key) :
    (i, g) ∉ (s.left i g).adm.contracts.map Contract.key ++ (s.left i g).adm.queue.map QueueEntry.key := by
  rw [List.mem_append]
  rintro (hc | hq)
  · exact h hc
  · change (i, g) ∈ (s.adm.queue.eraseP (QueueEntry.isOf i g)).map QueueEntry.key at hq
    rw [map_key_eraseP_queue] at hq
    exact hs.queue_nodup.not_mem_erase hq

/-- A pair that names nothing names nothing after another one has left. -/
theorem fresh_of_left {i j : Slot} {g k : Byte} (h : s.tagInUse i g = false) :
    (i, g) ∉ (s.left j k).adm.contracts.map Contract.key ++ (s.left j k).adm.queue.map QueueEntry.key := by
  obtain ⟨hc, hq⟩ := tagInUse_eq_false h
  rw [List.mem_append]
  rintro (h | h)
  · exact hc h
  · exact hq ((List.eraseP_sublist.map _).subset h)

theorem key_notMem_contracts {e : QueueEntry} (hs : s.KeysSound) (he : e ∈ s.adm.queue) :
    e.key ∉ s.adm.contracts.map Contract.key := fun hc =>
  (List.nodup_append.1 hs.1).2.2 _ hc _ (List.mem_map_of_mem he) rfl

theorem State.Move.keysSound (h : s.Move t) (hs : s.KeysSound) : t.KeysSound := by
  cases h with
  | aside _ hadm => exact keysSound_of_adm hadm hs
  | drop => exact ⟨hs.1.sublist ((List.eraseP_sublist.map _).append (List.Sublist.refl _)), hs.2⟩
  | alter _ hkey =>
    refine ⟨?_, hs.2⟩
    show ((modifyFirst _ _ _).map Contract.key ++ _).Nodup
    rw [map_modifyFirst hkey]
    exact hs.1
  | offer hnew => exact keysSound_offered hs (by simpa [not_or] using tagInUse_eq_false hnew)
  | leave i g => exact keysSound_left i g hs
  | grant he => exact keysSound_offered (keysSound_left _ _ hs) (fresh_left hs (key_notMem_contracts hs he))
  | mark hkey => simpa only [State.KeysSound, map_modifyFirst hkey] using hs
  | place hnew => exact keysSound_placed hs (by simpa [QueueEntry.key, not_or] using tagInUse_eq_false hnew)
  | displace _ hnew => exact keysSound_placed (keysSound_left _ _ hs) (fresh_of_left hnew)
  | clear i =>
    refine ⟨hs.1.sublist ((List.filter_sublist.map _).append (List.filter_sublist.map _)), ?_⟩
    show (s.adm.arrival.filter _).Perm ((s.adm.queue.filter _).map QueueEntry.key)
    rw [map_key_filter_queue]
    exact hs.2.filter _

theorem State.Move.sound (h : s.Move t) (hs : s.Sound) : t.Sound := ⟨h.records hs.1, h.keysSound hs.2⟩

/-! ## The service order (R28) -/

theorem inService_of_queue (hq : t.adm.queue.map QueueEntry.key = s.adm.queue.map QueueEntry.key)
    (ha : t.adm.arrival = s.adm.arrival) (hp : t.pol.active = s.pol.active) (hs : s.InService) : t.InService := by
  have hc : t.classOf = s.classOf := by funext i; simp [State.classOf, State.policy, hp]
  unfold State.InService
  rwa [hq, ha, hc]

theorem inService_left (i : Slot) (g : Byte) (hk : s.KeysSound) (hs : s.InService) : (s.left i g).InService :=
  pairwise_before_of_sublist (List.eraseP_sublist.map _) List.erase_sublist hk.arrival_nodup
    (keysSound_left i g hk).2 hs

theorem inService_placed {e : QueueEntry} (hk : s.KeysSound) (hs : s.InService)
    (hnew : e.key ∉ s.adm.queue.map QueueEntry.key) : (s.placed e).InService := by
  have hmem : ∀ k ∈ s.adm.queue.map QueueEntry.key, k ∈ s.adm.arrival := fun k hk' => hk.2.mem_iff.2 hk'
  refine pairwise_insertEntry (s := s) (hs.imp_of_mem fun ha hb => before_append (hmem _ ha) (hmem _ hb)) fun x hx => ?_
  have hx' := hmem x.key (List.mem_map_of_mem hx)
  show (s.adm.arrival ++ [e.key]).idxOf x.key < (s.adm.arrival ++ [e.key]).idxOf e.key
  rw [List.idxOf_append_of_mem hx', List.idxOf_append_of_notMem fun h => hnew (hk.2.mem_iff.1 h)]
  exact lt_of_lt_of_le (List.idxOf_lt_length_of_mem hx') (Nat.le_add_right _ _)

theorem State.Move.inService (h : s.Move t) (hk : s.KeysSound) (hs : s.InService) : t.InService := by
  cases h with
  | aside h hadm => exact inService_of_queue (by rw [hadm]) (by rw [hadm]) h.active hs
  | drop => exact hs
  | alter => exact hs
  | offer => exact hs
  | leave i g => exact inService_left i g hk hs
  | grant => exact inService_left _ _ hk hs
  | mark hkey => exact inService_of_queue (map_modifyFirst hkey _) rfl rfl hs
  | place hnew => exact inService_placed hk hs (tagInUse_eq_false hnew).2
  | displace _ hnew =>
    exact inService_placed (keysSound_left _ _ hk) (inService_left _ _ hk hs) fun h =>
      fresh_of_left hnew (List.mem_append_right _ h)
  | clear i =>
    have hk' := (State.Move.clear (s := s) i).keysSound hk
    exact pairwise_before_of_sublist (List.filter_sublist.map _) List.filter_sublist hk.arrival_nodup hk'.2 hs

/-! ## The accounts (R4, R65) -/

theorem total_filter_add (g : Contract → Nat) (i : Slot) (cs : List Contract) :
    ((cs.filter (·.slot != i)).map g).sum + ((cs.filter (·.slot == i)).map g).sum = (cs.map g).sum := by
  induction cs with
  | nil => rfl
  | cons c r ih =>
    by_cases h : c.slot = i <;> simp [h] <;> omega

theorem State.Move.accounts (h : s.Move t) (hk : s.Sound) (hs : s.Accounts) : t.Accounts := by
  obtain ⟨hc, hp, hb⟩ := hs
  cases h with
  | aside _ hadm hpl => exact ⟨by rw [hadm]; exact hc, by rw [hadm, hpl]; exact hp, by rw [hadm]; exact hb⟩
  | @drop i g c h =>
    have ha : totalAmount _ + c.amount = totalAmount _ := sum_eraseP (g := (·.amount)) h
    have hr : totalRelief _ + c.relief = totalRelief _ := sum_eraseP (g := Contract.relief) h
    refine ⟨?_, ?_, fun d hd => hb d (List.eraseP_subset hd)⟩
    · show s.adm.committed - c.amount = totalAmount (s.adm.contracts.eraseP _)
      omega
    · show s.eng.pledged - c.relief = totalRelief (s.adm.contracts.eraseP _)
      omega
  | @alter i g c f committed pledged h _ hbal =>
    have ha : totalAmount (modifyFirst _ f _) + c.amount = totalAmount _ + (f c).amount :=
      sum_modifyFirst (g := (·.amount)) h
    have hr : totalRelief (modifyFirst _ f _) + c.relief = totalRelief _ + (f c).relief :=
      sum_modifyFirst (g := Contract.relief) h
    obtain ⟨hbelow, hcom, hple⟩ := hbal hk (hb c (List.mem_of_find?_eq_some h))
    refine ⟨?_, ?_, fun d hd => ?_⟩
    · show committed = totalAmount (modifyFirst _ f s.adm.contracts)
      omega
    · show pledged = totalRelief (modifyFirst _ f s.adm.contracts)
      omega
    · rcases mem_of_mem_modifyFirst hd with hd | ⟨a, ha', rfl⟩
      · exact hb d hd
      · obtain rfl : a = c := by rw [State.contract?, ha'] at h; exact Option.some.inj h
        exact hbelow
  | offer =>
    refine ⟨?_, ?_, ?_⟩
    · simpa [State.offered, totalAmount] using hc
    · simpa [State.offered, totalRelief, Contract.relief] using hp
    · simpa [State.offered, Contract.targetBelow, or_imp, forall_and] using hb
  | leave => exact ⟨hc, hp, hb⟩
  | grant =>
    refine ⟨?_, ?_, ?_⟩
    · simpa [State.offered, State.left, totalAmount] using hc
    · simpa [State.offered, State.left, totalRelief, Contract.relief] using hp
    · simpa [State.offered, State.left, Contract.targetBelow, or_imp, forall_and] using hb
  | mark => exact ⟨hc, hp, hb⟩
  | place => exact ⟨hc, hp, hb⟩
  | displace => exact ⟨hc, hp, hb⟩
  | clear i =>
    have ha : totalAmount _ + totalAmount (s.contractsOf i) = totalAmount s.adm.contracts :=
      total_filter_add (·.amount) i s.adm.contracts
    have hr : totalRelief _ + totalRelief (s.contractsOf i) = totalRelief s.adm.contracts :=
      total_filter_add Contract.relief i s.adm.contracts
    refine ⟨?_, ?_, fun c hm => hb c (List.mem_of_mem_filter hm)⟩
    · show s.adm.committed - _ = totalAmount (s.adm.contracts.filter _)
      omega
    · show s.eng.pledged - _ = totalRelief (s.adm.contracts.filter _)
      omega

/-! ## The places of the tables (R1, R7, R27) -/

/-- R1, R7, R27: the places of the contract table and the queue, and the contracts and claims of a slot. -/
def State.TablesWithin (s : State) : Prop :=
  s.adm.contracts.length ≤ contractPlaces ∧ s.adm.queue.length ≤ queuePlaces ∧ ∀ i, s.heldBy i ≤ 4

/-- Contracts and claims that do not grow stay within the places. -/
theorem tablesWithin_of_le (hs : s.TablesWithin) (hc : t.adm.contracts.length ≤ s.adm.contracts.length)
    (hq : t.adm.queue.length ≤ s.adm.queue.length) (hh : ∀ i, t.heldBy i ≤ s.heldBy i) : t.TablesWithin :=
  ⟨hc.trans hs.1, hq.trans hs.2.1, fun i => (hh i).trans (hs.2.2 i)⟩

theorem heldBy_offered (i j : Slot) (g : Byte) (amount : Nat) (d : Time) :
    (s.offered i g amount d).heldBy j = s.heldBy j + if i = j then 1 else 0 := by
  simp only [heldBy_eq, State.offered, List.map_append, List.countP_append, Contract.key, List.map_cons, List.map_nil,
    List.countP_singleton, beq_iff_eq]
  omega

theorem heldBy_placed (e : QueueEntry) (j : Slot) :
    (s.placed e).heldBy j = s.heldBy j + if e.slot = j then 1 else 0 := by
  simp only [heldBy_eq, State.placed, ((insertEntry_perm s e s.adm.queue).map QueueEntry.key).countP_eq, List.map_cons,
    List.countP_cons, QueueEntry.key, beq_iff_eq]
  omega

theorem heldBy_left_le (i j : Slot) (g : Byte) : (s.left i g).heldBy j ≤ s.heldBy j := by
  simp only [heldBy_eq, State.left]
  exact Nat.add_le_add_left ((List.eraseP_sublist.map _).countP_le) _

theorem heldBy_left_of_mem {e : QueueEntry} (he : e ∈ s.adm.queue) (j : Slot) :
    (s.left e.slot e.tag).heldBy j + (if e.slot = j then 1 else 0) = s.heldBy j := by
  have hk : e.key ∈ s.adm.queue.map QueueEntry.key := List.mem_map_of_mem he
  have hp := (List.perm_cons_erase hk).countP_eq (fun k : Slot × Byte => k.1 == j)
  simp only [List.countP_cons, QueueEntry.key, beq_iff_eq] at hp
  simp only [heldBy_eq, State.left, map_key_eraseP_queue]
  omega

theorem length_left_of_mem {e : QueueEntry} (he : e ∈ s.adm.queue) :
    (s.left e.slot e.tag).adm.queue.length + 1 = s.adm.queue.length :=
  length_eraseP_of_mem_of he (QueueEntry.isOf_self e)

theorem length_placed (e : QueueEntry) : (s.placed e).adm.queue.length = s.adm.queue.length + 1 :=
  (insertEntry_perm s e s.adm.queue).length_eq

theorem State.Move.tablesWithin (h : s.Move t) (hv : s.RecordsValid) (hs : s.TablesWithin) : t.TablesWithin := by
  have hs' := hs
  obtain ⟨hc, hq, hh⟩ := hs'
  cases h with
  | aside _ hadm =>
    exact tablesWithin_of_le hs (by rw [hadm]) (by rw [hadm]) (fun i => by simp [heldBy_eq, hadm])
  | drop =>
    refine tablesWithin_of_le hs List.length_eraseP_le le_rfl (fun i => ?_)
    simp only [heldBy_eq]
    exact Nat.add_le_add_right ((List.eraseP_sublist.map _).countP_le) _
  | alter _ hkey =>
    refine tablesWithin_of_le hs (length_modifyFirst _ _ _).le le_rfl (fun i => ?_)
    simp [heldBy_eq, State.altered, map_modifyFirst hkey]
  | @offer i g _ _ _ hheld hroom =>
    refine ⟨by simpa [State.offered] using hroom, hq, fun j => ?_⟩
    have := hheld hv
    have := hh j
    rw [heldBy_offered]
    split
    · next hij => subst hij; omega
    · omega
  | leave i g => exact tablesWithin_of_le hs le_rfl List.length_eraseP_le fun j => heldBy_left_le i j g
  | @grant e _ _ he hroom =>
    refine ⟨by simpa [State.offered, State.left] using hroom, le_trans List.length_eraseP_le hq, fun j => ?_⟩
    have := heldBy_left_of_mem he j
    have := hh j
    rw [heldBy_offered]
    omega
  | mark hkey =>
    exact tablesWithin_of_le hs le_rfl (length_modifyFirst _ _ _).le
      (fun i => by simp [heldBy_eq, map_modifyFirst hkey])
  | @place e _ hheld hroom =>
    refine ⟨hc, by rw [length_placed]; exact hroom, fun j => ?_⟩
    have := hheld hv
    have := hh j
    rw [heldBy_placed]
    split
    · next hij => subst hij; omega
    · omega
  | @displace last e hlast _ hheld =>
    have hl := length_left_of_mem hlast
    refine ⟨hc, by rw [length_placed]; omega, fun j => ?_⟩
    have := hheld hv
    have := hh j
    have := heldBy_left_le (s := s) last.slot j last.tag
    rw [heldBy_placed]
    split
    · next hij => subst hij; omega
    · omega
  | clear i =>
    refine tablesWithin_of_le hs (List.length_filter_le _ _) (List.length_filter_le _ _) (fun j => ?_)
    simp only [heldBy_eq]
    exact Nat.add_le_add ((List.filter_sublist.map _).countP_le) ((List.filter_sublist.map _).countP_le)

/-! ## The shared operations as chains of moves -/

theorem State.Move.moves (h : s.Move t) : s.Moves t := .single h
theorem State.Moves.refl (s : State) : s.Moves s := Relation.ReflTransGen.refl
theorem State.Moves.trans (h : s.Moves t) (k : t.Moves u) : s.Moves u := Relation.ReflTransGen.trans h k

/-- Whatever every move keeps, a chain of moves keeps. -/
theorem State.Moves.keeps {P : State → Prop} (hP : ∀ u v : State, u.Move v → P u → P v) (h : s.Moves t) (hs : P s) :
    P t := by
  induction h with
  | refl => exact hs
  | tail _ hm ih => exact hP _ _ hm ih

/-- The fields that the laws of a port's places speak of. -/
theorem withinPlaces_congr {p q : SlotPort} (ho : q.orders = p.orders) (hr : q.replies = p.replies)
    (hd : q.downstream = p.downstream) (h : p.withinPlaces = true) : q.withinPlaces = true := by
  simpa [SlotPort.withinPlaces, ho, hr, hd] using h

/-- A change that touches neither the tables, the active records, the ports, the answers nor the forward queue. -/
theorem moves_records (hadm : t.adm = s.adm) (hpl : t.eng.pledged = s.eng.pledged) (hactive : t.pol.active = s.pol.active)
    (hshadow : s.RecordsValid → ∀ i, (t.pol.shadow.get i).valid = true) (hports : t.ports = s.ports)
    (hman : t.man.answers = s.man.answers) (hfwd : t.forward = s.forward) : s.Moves t :=
  (State.Move.aside
    { active := hactive
      records := fun h => ⟨fun i => by simpa only [State.policy, hactive] using h.1 i, hshadow h⟩
      ports := fun i h => by rwa [port_congr hports]
      answers := by rw [hman]
      forward := fun h => by rwa [hfwd] } hadm hpl).moves

/-- A change that touches neither the tables, the policy, the ports, the answers nor the forward queue. -/
theorem moves_same (hadm : t.adm = s.adm) (hpl : t.eng.pledged = s.eng.pledged) (hpol : t.pol = s.pol)
    (hports : t.ports = s.ports) (hman : t.man.answers = s.man.answers) (hfwd : t.forward = s.forward) : s.Moves t :=
  moves_records hadm hpl (by rw [hpol]) (fun h => by simpa only [hpol] using h.2) hports hman hfwd

theorem beside_onPort (i : Slot) {f : SlotPort → SlotPort}
    (hf : (s.port i).withinPlaces = true → (f (s.port i)).withinPlaces = true) : s.Beside (s.onPort i f) where
  active := rfl
  records := id
  ports j h := by
    by_cases hj : j = i
    · subst hj; simpa using hf h
    · simpa [hj] using h
  answers := le_rfl
  forward := id

theorem moves_onPort (i : Slot) {f : SlotPort → SlotPort}
    (hf : (s.port i).withinPlaces = true → (f (s.port i)).withinPlaces = true) : s.Moves (s.onPort i f) :=
  (State.Move.aside (beside_onPort i hf) rfl rfl).moves

/-- A port changes beside its three queues. -/
theorem moves_onPort_same (i : Slot) {f : SlotPort → SlotPort}
    (hf : ∀ p, (f p).orders = p.orders ∧ (f p).replies = p.replies ∧ (f p).downstream = p.downstream := by
      exact fun _ => ⟨rfl, rfl, rfl⟩) : s.Moves (s.onPort i f) :=
  moves_onPort i (withinPlaces_congr (hf _).1 (hf _).2.1 (hf _).2.2)

theorem moves_evalEnable (i : Slot) : s.Moves (s.evalEnable i) := moves_onPort_same i
theorem moves_deassert (i : Slot) : s.Moves (s.deassert i) := moves_onPort_same i
theorem moves_stray (i : Slot) : s.Moves (s.stray i) := moves_onPort_same i
theorem moves_proofOfLife (i : Slot) : s.Moves (s.proofOfLife i) := moves_onPort_same i
theorem moves_declare (i : Slot) (d : Declared) : s.Moves (s.declare i d) := moves_onPort_same i
theorem moves_declarePeak (i : Slot) (n : Nat) : s.Moves (s.declarePeak i n) :=
  moves_onPort_same i
theorem moves_raise (k : EventKind) (o : Option Origin) (d : Nat) : s.Moves (s.raise k o d) :=
  moves_same rfl rfl rfl rfl rfl rfl
theorem moves_reach (d : Time) : s.Moves (s.reach d) := moves_same rfl rfl rfl rfl rfl rfl
theorem moves_clearRecord (i : Slot) (g : Byte) : s.Moves (s.clearRecord i g) := moves_same rfl rfl rfl rfl rfl rfl

theorem moves_evalFlags : s.Moves (evalFlags s) :=
  moves_same evalFlags_adm (by rw [evalFlags_eng]) evalFlags_pol evalFlags_ports (by rw [kept_evalFlags.man])
    kept_evalFlags.forward

theorem moves_evalWatermark : s.Moves (evalWatermark s) := by
  unfold evalWatermark
  (repeat' split) <;> exact moves_same rfl rfl rfl rfl rfl rfl

theorem withinPlaces_withAnswer {p : SlotPort} (r : Reply) (h : p.withinPlaces = true) :
    (p.withAnswer r).withinPlaces = true := by
  unfold SlotPort.withAnswer
  split
  · next hr =>
    simp only [SlotPort.withinPlaces, Bool.and_eq_true, decide_eq_true_eq, List.length_append, List.length_singleton] at h ⊢
    exact ⟨⟨h.1.1, hr⟩, h.2⟩
  · exact withinPlaces_congr rfl rfl rfl h

theorem moves_reply (i : Slot) (r : Reply) : s.Moves (s.reply i r) := moves_onPort i (withinPlaces_withAnswer r)
theorem moves_refuse (i : Slot) (g : Byte) (r : RefuseReason) : s.Moves (s.refuse i g r) := moves_reply i _

/-! ### Orders (R104, R105) -/

theorem dropOrder_sublist (i : Slot) (os : List Order) : (s.dropOrder i os).Sublist os := by
  unfold State.dropOrder; split <;> exact List.eraseP_sublist

theorem takesTagPlace_of_droppable {i : Slot} {o : Order} (h : s.droppable i o = true) : o.takesTagPlace = true := by
  unfold State.droppable at h
  unfold Order.takesTagPlace
  split <;> simp_all

theorem filter_eraseP_length {α : Type} {p q : α → Bool} (hpq : ∀ a, p a = true → q a = true) {l : List α}
    (h : l.any p = true) : ((l.eraseP p).filter q).length + 1 = (l.filter q).length := by
  induction l with
  | nil => simp at h
  | cons a r ih =>
    by_cases ha : p a
    · simp [ha, hpq a ha]
    · have := ih (by simpa [ha] using h)
      by_cases hq : q a <;> simp [ha, hq] <;> omega

/-- A dropped order frees one tag place. -/
theorem length_filter_dropOrder (i : Slot) {os : List Order} (h : 0 < (os.filter Order.takesTagPlace).length) :
    ((s.dropOrder i os).filter Order.takesTagPlace).length + 1 = (os.filter Order.takesTagPlace).length := by
  unfold State.dropOrder
  split
  · next hd => exact filter_eraseP_length (fun _ => takesTagPlace_of_droppable) hd
  · refine filter_eraseP_length (fun _ => id) ?_
    obtain ⟨o, ho⟩ := List.exists_mem_of_length_pos h
    exact List.any_eq_true.2 ⟨o, List.mem_of_mem_filter ho, by simpa using (List.mem_filter.1 ho).2⟩

theorem map_matter_modifyFirst (o : Order) (os : List Order) :
    (modifyFirst (·.matter == o.matter) (fun _ => o) os).map Order.matter = os.map Order.matter := by
  induction os with
  | nil => rfl
  | cons a r ih =>
    by_cases h : a.matter = o.matter <;> simp [modifyFirst, h, ih]

theorem takesTagPlace_count (os : List Order) : (os.filter Order.takesTagPlace).length =
    (os.map Order.matter).countP fun | .tag _ => true | .cut | .probe => false := by
  rw [List.countP_map, List.countP_eq_length_filter]; rfl

theorem moves_order (i : Slot) (o : Order) : s.Moves (s.order i o) := by
  refine moves_onPort i fun h => ?_
  simp only [SlotPort.withinPlaces, Bool.and_eq_true, decide_eq_true_eq] at h
  obtain ⟨⟨⟨hn, htag⟩, hr⟩, hd⟩ := h
  split
  · simpa only [SlotPort.withinPlaces, Bool.and_eq_true, decide_eq_true_eq, takesTagPlace_count,
      map_matter_modifyFirst] using ⟨⟨⟨hn, takesTagPlace_count _ ▸ htag⟩, hr⟩, hd⟩
  · next hnew =>
    have hnotin : ∀ os : List Order, os.Sublist (s.port i).orders → o.matter ∉ os.map Order.matter := by
      intro os hos hm
      obtain ⟨x, hx, he⟩ := List.mem_map.1 hm
      exact hnew (List.any_eq_true.2 ⟨x, hos.subset hx, by simp [he]⟩)
    have happend : ∀ os : List Order, os.Sublist (s.port i).orders → ((os ++ [o]).map Order.matter).Nodup := by
      intro os hos
      rw [List.map_append, List.map_singleton, (List.perm_append_singleton _ _).nodup_iff]
      exact List.nodup_cons.2 ⟨hnotin os hos, hn.sublist (hos.map _)⟩
    split
    · next hfull =>
      simp only [Bool.and_eq_true, decide_eq_true_eq] at hfull
      have hpos : 0 < tagPlaces := by decide
      have hdrop := length_filter_dropOrder (s := s) i (lt_of_lt_of_le hpos hfull.2)
      simp only [SlotPort.withinPlaces, Bool.and_eq_true, decide_eq_true_eq, List.filter_append, List.length_append]
      refine ⟨⟨⟨happend _ (dropOrder_sublist i _), ?_⟩, hr⟩, hd⟩
      have := List.length_filter_le Order.takesTagPlace [o]
      simp only [List.length_singleton] at this
      omega
    · next hroom =>
      simp only [Bool.and_eq_true, decide_eq_true_eq, not_and, not_le] at hroom
      simp only [SlotPort.withinPlaces, Bool.and_eq_true, decide_eq_true_eq, List.filter_append, List.length_append]
      refine ⟨⟨⟨happend _ (List.Sublist.refl _), ?_⟩, hr⟩, hd⟩
      by_cases ho : o.takesTagPlace
      · have := hroom ho
        simp [ho]
        omega
      · simpa [ho] using htag

/-! ### Removal, departure, creation -/

theorem moves_removeContract (i : Slot) (g : Byte) : s.Moves (s.removeContract i g) := by
  unfold State.removeContract
  split
  · exact .refl s
  · next c h => exact (State.Move.drop h).moves.trans (moves_evalEnable i)

theorem moves_closeContract (i : Slot) (g : Byte) : s.Moves (s.closeContract i g) :=
  (moves_removeContract i g).trans moves_evalFlags

theorem moves_leaveQueue (i : Slot) (g : Byte) : s.Moves (s.leaveQueue i g) :=
  (State.Move.leave i g).moves.trans (moves_clearRecord i g)

theorem moves_withdraw (i : Slot) (g : Byte) : s.Moves (s.withdraw i g) :=
  (moves_closeContract i g).trans (moves_order i _)

theorem createOffer_eq (i : Slot) (g : Byte) (amount : Nat) : s.createOffer i g amount =
    (evalFlags (s.offered i g amount (s.now + s.pol.items.acceptWindow))).order i (.offer g amount (s.policy i).lease) :=
  rfl

theorem moves_createOffer {i : Slot} {g : Byte} {amount : Nat} (hnew : s.tagInUse i g = false)
    (hheld : s.RecordsValid → s.heldBy i < 4) (hroom : s.adm.contracts.length < contractPlaces) :
    s.Moves (s.createOffer i g amount) :=
  ((State.Move.offer hnew hheld hroom).moves.trans moves_evalFlags).trans (moves_order i _)

theorem moves_grantEntry {e : QueueEntry} {amount : Nat} (he : e ∈ s.adm.queue)
    (hroom : s.adm.contracts.length < contractPlaces) : s.Moves (s.grantEntry e amount) := by
  have hgrant := (State.Move.grant (amount := amount) (deadline := s.now + s.pol.items.acceptWindow) he hroom).moves
  have hrecord := moves_same (s := (s.left e.slot e.tag).offered e.slot e.tag amount (s.now + s.pol.items.acceptWindow))
    (t := (s.leaveQueue e.slot e.tag).offered e.slot e.tag amount (s.now + s.pol.items.acceptWindow))
    rfl rfl rfl rfl rfl rfl
  exact ((hgrant.trans hrecord).trans moves_evalFlags).trans (moves_order e.slot _)

theorem grantEntry_queue (e : QueueEntry) (amount : Nat) :
    (s.grantEntry e amount).adm.queue = s.adm.queue.eraseP (QueueEntry.isOf e.slot e.tag) := by
  simp only [State.grantEntry, createOffer_eq, order_adm, evalFlags_adm]
  rfl

theorem isHeld_iff {c : Contract} : c.isHeld = true ↔ ∃ g, c.state = .held g := by
  unfold Contract.isHeld; split <;> simp_all

theorem shedTo_key (target deadline : Nat) (forced : Bool) (c : Contract) :
    (c.shedTo target deadline forced).key = c.key := by
  unfold Contract.shedTo; split <;> rfl

/-- A shed to a target below the amount (R62). -/
theorem moves_issueShed {i : Slot} {g : Byte} {target : Nat} (forced : Bool)
    (h : s.Sound → ∀ c, s.contract? i g = some c → c.isHeld = true → target < c.amount) :
    s.Moves (s.issueShed i g target forced) := by
  unfold State.issueShed
  split
  · exact .refl s
  · next c hc =>
    split
    · next hheld =>
      refine .trans (State.Move.moves (.alter (committed := s.adm.committed)
        (pledged := s.eng.pledged + (c.amount - target)) hc (shedTo_key _ _ _) fun hs _ => ?_)) (moves_order i _)
      have hlt := h hs c hc hheld
      obtain ⟨g', hg⟩ := isHeld_iff.1 hheld
      simp [Contract.shedTo, Contract.targetBelow, Contract.relief, hg, hlt]
    · exact .refl s

theorem moves_removeSlot (i : Slot) : s.Moves (s.removeSlot i) := by
  refine .trans (State.Move.clear i).moves (.trans ?_ (moves_evalEnable i))
  exact moves_same (t := { s.cleared i with eng.record := s.eng.record.filter (·.slot != i) }) rfl rfl rfl rfl rfl rfl

theorem moves_teardown (i : Slot) : s.Moves (s.teardown i) := (moves_removeSlot i).trans moves_evalFlags

theorem moves_cut (i : Slot) (reason : CutReason) : s.Moves (s.cut i reason) := by
  unfold State.cut
  split
  · have hstages := ((moves_deassert (s := s) i).trans (moves_teardown i)).trans (moves_order i (.cut reason))
    refine .trans ?_ (moves_raise _ _ _)
    exact hstages.trans (moves_onPort_same i)
  · exact .refl s

/-! ### Rounds and passes -/

/-- R113: what a valid record says of the fields that the accounts and the places rest on. -/
theorem Policy.bounds_of_valid {p : Policy} (h : p.valid = true) :
    1 ≤ p.step ∧ p.floor ≤ p.ceiling ∧ p.maxContracts ≤ 4 := by
  simp only [Policy.valid, Bool.and_eq_true, decide_eq_true_eq] at h
  omega

theorem pick_spec {eligible : Contract → Bool} {after : Contract → Contract → Bool} {l : List Contract}
    {best : Option Contract} {c : Contract} (h : pick eligible after l best = some c) :
    c ∈ l ∧ eligible c = true ∨ best = some c := by
  induction l generalizing best with
  | nil => exact .inr h
  | cons d r ih =>
    rcases ih h with ⟨hm, he⟩ | hb
    · exact .inl ⟨by simp [hm], he⟩
    · split at hb
      · next hd =>
        cases best with
        | none => exact .inl ⟨by simp_all, by simp_all⟩
        | some b =>
          dsimp only at hb
          split at hb
          · exact .inl ⟨by simp_all, by simp_all⟩
          · exact .inr hb
      · exact .inr hb

theorem shedVictim_spec {bound : Nat} {c : Contract} (h : s.shedVictim bound = some c) :
    c ∈ s.adm.contracts ∧ c.isHeld = true ∧ s.contractClass c < bound ∧ (s.policy c.slot).floor < c.amount := by
  rcases pick_spec h with ⟨hm, he⟩ | hn
  · simp only [Bool.and_eq_true, decide_eq_true_eq] at he
    exact ⟨hm, he.1.1, he.1.2, he.2⟩
  · simp at hn

/-- R61: a round's shed of a victim against a need has a target below the victim's amount. -/
theorem moves_shedVictim {bound need : Nat} {c : Contract} (hv : s.shedVictim bound = some c) (hn : need ≠ 0) :
    s.Moves (s.issueShed c.slot c.tag (c.amount - s.reliefFor c need) false) := by
  refine moves_issueShed false fun hs d hd _ => ?_
  obtain ⟨hm, -, -, hfloor⟩ := shedVictim_spec hv
  obtain rfl : c = d := Option.some.inj ((contract?_of_mem hs.2 hm).symm.trans hd)
  have hstep := (Policy.bounds_of_valid (hs.1.1 c.slot)).1
  have := le_roundUp hstep need
  unfold State.reliefFor
  omega

theorem moves_preemptWithdraw (bound fuel : Nat) :
    ∀ (need : Nat) (s : State), s.Moves (preemptWithdraw bound fuel need s).1 := by
  induction fuel with
  | zero => exact fun _ s => .refl s
  | succ fuel ih =>
    intro need s
    unfold preemptWithdraw
    split
    · exact .refl s
    · split
      · exact .refl s
      · exact (moves_withdraw _ _).trans (ih _ _)

theorem moves_preemptShed (bound fuel : Nat) : ∀ (need : Nat) (s : State), s.Moves (preemptShed bound fuel need s) := by
  induction fuel with
  | zero => exact fun _ s => .refl s
  | succ fuel ih =>
    intro need s
    unfold preemptShed
    split
    · exact .refl s
    · next hn =>
      split
      · exact .refl s
      · next hv => exact (moves_shedVictim hv hn).trans (ih _ _)

theorem moves_preemptRound (r : PreemptRecord) : s.Moves (preemptRound r s).1 :=
  (moves_preemptWithdraw _ _ _ _).trans (moves_preemptShed _ _ _ _)

theorem room_of_passStep_taken {e : QueueEntry} {amount : Nat} (h : s.passStep e = .taken amount) :
    s.adm.contracts.length < contractPlaces := by
  unfold State.passStep at h
  split at h
  · simp at h
  · next hroom => exact Nat.lt_of_not_le hroom

/-- A pass admits entries of the queue, each once (R36). -/
theorem moves_passWalk (l : List QueueEntry) : ∀ s : State, l.Sublist s.adm.queue → s.Moves (passWalk l s).1 := by
  induction l with
  | nil => exact fun s _ => .refl s
  | cons e rest ih =>
    intro s hl
    unfold passWalk
    cases hstep : s.passStep e with
    | full => exact .refl s
    | passed => exact ih s ((List.sublist_cons_self e rest).trans hl)
    | taken amount =>
      refine (moves_grantEntry (hl.subset (by simp)) (room_of_passStep_taken hstep)).trans (ih _ ?_)
      rw [grantEntry_queue]
      exact sublist_eraseP (QueueEntry.isOf_self e) hl
    | blocked => exact .refl s

theorem moves_markRequested (e : QueueEntry) : s.Moves (s.markRequested e) :=
  (State.Move.mark (i := e.slot) (g := e.tag) (f := fun x => { x with reliefRequested := true }) fun _ => rfl).moves

theorem moves_handOff (e : QueueEntry) : s.Moves (handOff e s).1 := by
  unfold handOff
  split
  · split
    · exact moves_markRequested e
    · refine .trans (.trans (moves_markRequested e) ?_) (moves_preemptRound _)
      exact moves_same rfl rfl rfl rfl rfl rfl
  · exact .refl s

theorem moves_admissionPass (fuel : Nat) : ∀ s : State, s.Moves (admissionPass fuel s) := by
  induction fuel with
  | zero => exact fun s => .refl s
  | succ fuel ih =>
    intro s
    have hw := moves_passWalk s.adm.queue s (List.Sublist.refl _)
    unfold admissionPass
    split
    · next hp => rwa [hp] at hw
    · next u e hp =>
      rw [hp] at hw
      have hh := hw.trans (moves_handOff e)
      split
      · next v hq =>
        rw [hq] at hh
        exact hh.trans (ih v)
      · next v hq =>
        rw [hq] at hh
        exact hh

theorem moves_runPass : s.Moves (runPass s) := moves_admissionPass _ s

theorem moves_budgetWithdraw (fuel : Nat) : ∀ s : State, s.Moves (budgetWithdraw fuel s).1 := by
  induction fuel with
  | zero => exact fun s => .refl s
  | succ fuel ih =>
    intro s
    unfold budgetWithdraw
    split
    · exact .refl s
    · split
      · exact .refl s
      · exact (moves_withdraw _ _).trans (ih _)

theorem moves_budgetShed (fuel : Nat) : ∀ s : State, s.Moves (budgetShed fuel s) := by
  induction fuel with
  | zero => exact fun s => .refl s
  | succ fuel ih =>
    intro s
    unfold budgetShed
    split
    · exact .refl s
    · next hn =>
      split
      · exact .refl s
      · next hv => exact (moves_shedVictim hv hn).trans (ih _)

theorem moves_budgetCut (fuel : Nat) : ∀ s : State, s.Moves (budgetCut fuel s).1 := by
  induction fuel with
  | zero => exact fun s => .refl s
  | succ fuel ih =>
    intro s
    unfold budgetCut
    split
    · exact .refl s
    · split
      · exact .refl s
      · exact (moves_cut _ _).trans (ih _)

theorem moves_budgetActs (urgency : Urgency) : s.Moves (budgetActs urgency s).1 := by
  have hw := moves_budgetWithdraw s.adm.contracts.length s
  cases urgency with
  | normal => exact hw.trans (moves_budgetShed _ _)
  | immediate => exact hw.trans (moves_budgetCut _ _)

theorem moves_budgetRound (urgency : Urgency) : s.Moves (budgetRound urgency s) := by
  unfold budgetRound
  dsimp only
  split
  · exact (moves_budgetActs urgency).trans moves_runPass
  · exact moves_budgetActs urgency

theorem moves_recheckIf (called : Bool) : s.Moves (recheckIf called s) := by
  unfold recheckIf
  split
  · exact moves_budgetRound .normal
  · exact .refl s

theorem moves_afterClose (wasShedding : Bool) : s.Moves (afterClose wasShedding s) :=
  moves_runPass.trans (moves_recheckIf wasShedding)

theorem moves_tearAndFollow (i : Slot) : s.Moves (tearAndFollow i s) := by
  unfold tearAndFollow
  split
  · exact moves_teardown i
  · exact (moves_teardown i).trans (moves_afterClose _)

theorem moves_cutAndFollow (i : Slot) (reason : CutReason) : s.Moves (cutAndFollow i reason s) := by
  unfold cutAndFollow
  split
  · exact (moves_cut i reason).trans (moves_afterClose _)
  · exact moves_cut i reason

theorem moves_recompute : s.Moves (recompute s) :=
  .trans (t := { s with bud := workOut s.bud s.pol.items }) (moves_same rfl rfl rfl rfl rfl rfl) moves_evalFlags

theorem moves_requestOnChange (before : Nat) (urgency : Urgency) : s.Moves (requestOnChange before urgency s) := by
  unfold requestOnChange
  split
  · exact moves_budgetRound urgency
  · split
    · exact moves_runPass
    · exact .refl s

theorem moves_requestOnConfig (before : Nat) : s.Moves (requestOnConfig before s) := by
  unfold requestOnConfig
  split
  · exact moves_runPass.trans (moves_budgetRound .normal)
  · exact moves_budgetRound .normal

/-! ## The power frames as chains of moves -/

theorem modifyFirst_of_none {α : Type} {p : α → Bool} {l : List α} (h : l.find? p = none) (f : α → α) :
    modifyFirst p f l = l := by
  induction l with
  | nil => rfl
  | cons a r ih =>
    by_cases ha : p a
    · simp [ha] at h
    · simp [modifyFirst, ha, ih (by simpa [ha] using h)]

/-- A contract changes without its amount, its relief or its pair. -/
theorem moves_onContract {i : Slot} {g : Byte} {f : Contract → Contract} (hkey : ∀ d, (f d).key = d.key)
    (h : ∀ c, s.contract? i g = some c →
      (f c).amount = c.amount ∧ (f c).relief = c.relief ∧ (c.targetBelow = true → (f c).targetBelow = true)) :
    s.Moves (s.onContract i g f) := by
  cases hc : s.contract? i g with
  | none =>
    unfold State.onContract
    rw [modifyFirst_of_none hc]
    exact .refl s
  | some c =>
    obtain ⟨ha, hr, hb⟩ := h c hc
    exact (State.Move.alter (committed := s.adm.committed) (pledged := s.eng.pledged) hc hkey fun _ hbelow =>
      ⟨hb hbelow, by omega, by omega⟩).moves

theorem onGrant_kept (f : Grant → Grant) (c : Contract) :
    (c.onGrant f).key = c.key ∧ (c.onGrant f).amount = c.amount ∧ (c.onGrant f).relief = c.relief
      ∧ (c.onGrant f).targetBelow = c.targetBelow := by
  cases hst : c.state <;> simp [Contract.onGrant, hst, Contract.key, Contract.relief, Contract.targetBelow]

theorem moves_onGrant (i : Slot) (g : Byte) (f : Grant → Grant) : s.Moves (s.onContract i g (Contract.onGrant f)) :=
  moves_onContract (fun d => (onGrant_kept f d).1) fun c _ =>
    ⟨(onGrant_kept f c).2.1, (onGrant_kept f c).2.2.1, fun h => (onGrant_kept f c).2.2.2.trans h⟩

theorem claimRefusal_present {i : Slot} {g : Byte} {want least : Nat} (h : (s.port i).state = .present) :
    s.claimRefusal i g want least =
      if least < 1 ∨ want < least then some .malformed
      else if s.tagInUse i g then some .tagInUse
      else if (s.policy i).maxContracts ≤ s.heldBy i then some .slotLimit
      else if ((s.port i).declared.any fun d => decide (d.peak ≠ 0 ∧ d.peak < want)) then some .beyondDeclared
      else if (s.policy i).ceiling < roundUp (s.policy i).step least then some .ceiling
      else none := by
  simp only [State.claimRefusal, h]

theorem claimRefusal_eq_none {i : Slot} {g : Byte} {want least : Nat} (h : s.claimRefusal i g want least = none) :
    s.tagInUse i g = false ∧ s.heldBy i < (s.policy i).maxContracts := by
  cases hst : (s.port i).state with
  | present =>
    rw [claimRefusal_present hst] at h
    split at h
    · simp at h
    · split at h
      · simp at h
      · next htag =>
        split at h
        · simp at h
        · next hheld => exact ⟨by simpa using htag, Nat.lt_of_not_le hheld⟩
  | _ => simp [State.claimRefusal, hst] at h

theorem insertEntry_congr (h : t.pol.active = s.pol.active) (e : QueueEntry) (q : List QueueEntry) :
    t.insertEntry e q = s.insertEntry e q := by
  have hc : t.entryClass = s.entryClass := by funext x; simp only [State.entryClass, State.policy, h]
  induction q with
  | nil => rfl
  | cons x r ih => simp only [State.insertEntry, hc, ih]

/-- The entry that a claim with rounded figures becomes (R27). -/
def State.entryFor (s : State) (i : Slot) (g : Byte) (want least : Nat) : QueueEntry :=
  ⟨i, g, want, least, if (s.policy i).waitLimit = 0 then none else some (s.now + 1000 * (s.policy i).waitLimit), false⟩

theorem placeClaim_placed (i : Slot) (g : Byte) (want least : Nat) :
    s.placeClaim i g want least = (s.placed (s.entryFor i g want least)).reply i
      (.queued g ((s.placed (s.entryFor i g want least)).position i g)) := rfl

/-- A claim that displaces the last entry: the departure and the placing are one move, and the rest stands beside it. -/
theorem placed_displacing (last : QueueEntry) (e : QueueEntry) (r : RefuseReason) :
    ((s.leaveQueue last.slot last.tag).refuse last.slot last.tag r).placed e =
      (((s.left last.slot last.tag).placed e).clearRecord last.slot last.tag).refuse last.slot last.tag r := by
  have hq := insertEntry_congr (t := (s.leaveQueue last.slot last.tag).refuse last.slot last.tag r)
    (s := s.left last.slot last.tag) rfl e (s.left last.slot last.tag).adm.queue
  unfold State.placed
  exact congrArg (fun q => { (s.leaveQueue last.slot last.tag).refuse last.slot last.tag r with
    adm.queue := q, adm.arrival := s.adm.arrival.erase (last.slot, last.tag) ++ [e.key] }) hq

theorem moves_queueClaim {i : Slot} {g : Byte} (want least : Nat) (hnew : s.tagInUse i g = false)
    (hheld : s.RecordsValid → s.heldBy i < 4) : s.Moves (s.queueClaim i g want least) := by
  unfold State.queueClaim
  split
  · next hroom =>
    rw [placeClaim_placed]
    exact (State.Move.place (e := s.entryFor i g want least) hnew hheld hroom).moves.trans (moves_reply i _)
  · split
    · exact moves_refuse i g _
    · next last hlast =>
      split
      · refine .trans ?_ moves_runPass
        rw [placeClaim_placed, placed_displacing]
        refine .trans (.trans (.trans (State.Move.moves ?_) (moves_clearRecord _ _)) (moves_refuse _ _ _)) (moves_reply i _)
        exact .displace (List.mem_of_getLast? hlast) hnew hheld
      · exact moves_refuse i g _

theorem room_of_offersNow {i : Slot} {least : Nat} (h : s.offersNow i least = true) :
    s.adm.contracts.length < contractPlaces := by
  simp only [State.offersNow, Bool.and_eq_true, decide_eq_true_eq] at h
  exact h.1.2

theorem moves_takeClaim (i : Slot) (g : Byte) (want least : Nat) : s.Moves (takeClaim i g want least s) := by
  unfold takeClaim
  split
  · exact moves_refuse i g _
  · next h =>
    obtain ⟨hnew, hlt⟩ := claimRefusal_eq_none h
    have hheld : s.RecordsValid → s.heldBy i < 4 := fun hv =>
      lt_of_lt_of_le hlt (Policy.bounds_of_valid (hv.1 i)).2.2
    dsimp only
    split
    · next ho => exact moves_createOffer hnew hheld (room_of_offersNow ho)
    · exact moves_queueClaim _ _ hnew hheld

theorem isOffered_iff {c : Contract} : c.isOffered = true ↔ ∃ d, c.state = .offered d := by
  unfold Contract.isOffered Contract.granted; split <;> simp_all

theorem moves_takeAccept (i : Slot) (g : Byte) : s.Moves (takeAccept i g s) := by
  unfold takeAccept
  split
  · exact moves_refuse i g _
  · next c hc =>
    split
    · next ho =>
      obtain ⟨d, hd⟩ := isOffered_iff.1 ho
      have hheld : s.Moves (s.onContract i g fun c => { c with state := .held ⟨s.leaseExpiry i, 0, s.reportDeadline i⟩ }) :=
        moves_onContract (fun _ => rfl) fun c' hc' => by
          obtain rfl : c = c' := Option.some.inj (hc.symm.trans hc')
          simp [Contract.relief, Contract.targetBelow, hd]
      exact (hheld.trans (moves_evalEnable i)).trans (moves_reply i _)
    · exact moves_refuse i g _

theorem moves_takeDecline (i : Slot) (g : Byte) : s.Moves (takeDecline i g s) := by
  unfold takeDecline
  split
  · exact moves_refuse i g _
  · split
    · exact ((moves_closeContract i g).trans (moves_reply i _)).trans moves_runPass
    · exact moves_refuse i g _

theorem moves_takeRelease (i : Slot) (g : Byte) : s.Moves (takeRelease i g s) := by
  unfold takeRelease
  split
  · exact ((moves_closeContract i g).trans (moves_reply i _)).trans (moves_afterClose _)
  · split
    · exact ((moves_leaveQueue i g).trans (moves_reply i _)).trans moves_runPass
    · exact moves_refuse i g _

theorem complied_key (amount : Nat) (c : Contract) : (c.complied amount).key = c.key := by
  unfold Contract.complied; split <;> rfl

/-- Compliance at an amount at or below the target (R67). -/
theorem moves_comply {i : Slot} {g : Byte} {c : Contract} {gr : Grant} {sh : Shed} {amount : Nat}
    (hc : s.contract? i g = some c) (hst : c.state = .shedding gr sh) (hle : amount ≤ sh.target) :
    s.Moves (s.comply i g c amount) := by
  refine .trans (State.Move.moves (.alter (f := Contract.complied amount)
    (committed := s.adm.committed - (c.amount - amount)) (pledged := s.eng.pledged - c.relief)
    hc (complied_key amount) fun _ hb => ?_)) ?_
  · simp only [Contract.targetBelow, hst, decide_eq_true_eq] at hb
    simp only [Contract.complied, hst, Contract.targetBelow, Contract.relief]
    exact ⟨trivial, by omega, by omega⟩
  · refine moves_same ?_ ?_ ?_ ?_ ?_ ?_ <;> simp only [State.comply, evalFlags_adm, evalFlags_pol, evalFlags_ports,
      kept_evalFlags.man, kept_evalFlags.forward] <;> rfl

theorem moves_withAmount {i : Slot} {g : Byte} {c : Contract} {gr : Grant} {amount committed : Nat}
    (hc : s.contract? i g = some c) (hst : c.state = .held gr)
    (hcom : committed = s.adm.committed + amount - c.amount) :
    s.Moves { s.onContract i g (Contract.withAmount amount) with adm.committed := committed } :=
  (State.Move.alter (f := Contract.withAmount amount) (committed := committed) (pledged := s.eng.pledged) hc
    (fun _ => rfl) fun _ _ => by
      simp [Contract.withAmount, Contract.targetBelow, Contract.relief, hst, hcom]).moves

theorem moves_adjustHeld {i : Slot} {g : Byte} {c : Contract} {gr : Grant} (amount : Nat)
    (hc : s.contract? i g = some c) (hst : c.state = .held gr) : s.Moves (adjustHeld i g c amount s) := by
  unfold adjustHeld
  split
  · exact moves_refuse i g _
  · split
    · exact moves_reply i _
    · split
      · exact (((moves_withAmount hc hst (by omega)).trans moves_evalFlags).trans (moves_reply i _)).trans moves_runPass
      · split
        · exact moves_refuse i g _
        · exact ((moves_withAmount hc hst (by omega)).trans moves_evalFlags).trans (moves_reply i _)

theorem moves_takeAdjust (i : Slot) (g : Byte) (asked : Nat) : s.Moves (takeAdjust i g asked s) := by
  unfold takeAdjust
  split
  · exact moves_refuse i g _
  · next c hc =>
    dsimp only
    split
    · exact moves_refuse i g _
    · next gr hst =>
      split
      · exact moves_refuse i g _
      · exact moves_adjustHeld _ hc hst
    · next gr sh hst =>
      split
      · exact moves_refuse i g _
      · split
        · next hle => exact ((moves_comply hc hst hle).trans (moves_reply i _)).trans (moves_afterClose true)
        · exact moves_refuse i g _

theorem moves_takeRenew (i : Slot) (g : Byte) : s.Moves (takeRenew i g s) := by
  unfold takeRenew
  split
  · exact moves_refuse i g _
  · split
    · exact (moves_onGrant i g _).trans (moves_reply i _)
    · exact moves_refuse i g _

theorem moves_violate (i : Slot) (reason : CutReason) (detail : Nat) : s.Moves (violate i reason detail s) := by
  unfold violate
  dsimp only
  split
  · exact moves_raise _ _ _
  · exact (moves_raise _ _ _).trans (moves_cutAndFollow i reason)

theorem moves_judgeReport (i : Slot) (g : Byte) (measured : Nat) : s.Moves (judgeReport i g measured s) := by
  unfold judgeReport
  split
  · exact .refl s
  · dsimp only
    split
    · exact moves_onGrant i g _
    · split
      · exact moves_onGrant i g _
      · exact (moves_onGrant i g _).trans (moves_violate i _ _)

theorem moves_takeReport (i : Slot) (g : Byte) (measured : Nat) : s.Moves (takeReport i g measured s) := by
  unfold takeReport
  split
  · exact moves_stray i
  · next c hc =>
    split
    · exact moves_stray i
    · exact moves_judgeReport i g measured
    · next gr sh hst =>
      split
      · exact ((moves_comply hc hst le_rfl).trans (moves_afterClose true)).trans (moves_judgeReport i g measured)
      · exact moves_judgeReport i g measured

theorem moves_takeComply (i : Slot) (g : Byte) : s.Moves (takeComply i g s) := by
  unfold takeComply
  split
  · exact moves_refuse i g _
  · next c hc =>
    split
    · next gr sh hst => exact ((moves_comply hc hst le_rfl).trans (moves_reply i _)).trans (moves_afterClose true)
    · exact moves_refuse i g _
    · exact moves_refuse i g _

/-! ## The links and the other frames -/

theorem moves_setReceiver (link : Link) (r : Receiver) : s.Moves (s.setReceiver link r) := by
  cases link with
  | slot i => exact moves_onPort_same (f := fun p => { p with receiver := r }) i
  | supply => exact moves_same rfl rfl rfl rfl rfl rfl

theorem moves_linkError (link : Link) (e : LinkError) : s.Moves (s.linkError link e) := by
  refine .trans ?_ (moves_raise _ _ _)
  cases link <;> cases e
  case slot.framing i => exact moves_onPort_same (f := fun p => { p with framingErrors := countUp p.framingErrors }) i
  case slot.crc i => exact moves_onPort_same (f := fun p => { p with crcErrors := countUp p.crcErrors }) i
  case supply.framing => exact moves_same rfl rfl rfl rfl rfl rfl
  case supply.crc => exact moves_same rfl rfl rfl rfl rfl rfl

theorem moves_malformedFrame (link : Link) : s.Moves (malformedFrame link s) := by
  unfold malformedFrame
  split
  · exact (moves_setReceiver link _).trans (moves_linkError link _)
  · exact .refl s

theorem moves_moduleFrame (i : Slot) {handle : State → State} (h : ∀ u : State, u.Moves (handle u)) :
    s.Moves (moduleFrame i handle s) := by
  unfold moduleFrame
  split
  · have hh : s.Moves (s.hunt (.slot i)) := moves_setReceiver _ _
    dsimp only
    split
    · exact hh
    · exact hh
    · exact hh.trans (h _)
    all_goals exact (hh.trans (moves_proofOfLife i)).trans (h _)
  · exact .refl s

theorem moves_supplyFrame {handle : State → State} (h : ∀ u : State, u.Moves (handle u)) :
    s.Moves (supplyFrame handle s) := by
  unfold supplyFrame
  split
  · exact (moves_setReceiver .supply _).trans (h _)
  · exact .refl s

theorem moves_abandonFrame (link : Link) : s.Moves (abandonFrame link s) := by
  unfold abandonFrame
  split
  · split
    · exact .refl s
    · exact ((moves_reach _).trans (moves_setReceiver link _)).trans (moves_linkError link _)
  · exact .refl s

theorem moves_dropForward (i : Slot) : s.Moves (s.dropForward i) :=
  (moves_onPort_same i).trans (moves_raise _ _ _)

theorem moves_takeData (i : Slot) (q : Byte) (payload : List Byte) : s.Moves (takeData i q payload s) := by
  unfold takeData
  split
  · next h =>
    have hroom : s.forward.length < forwardPlaces := by simpa using (Bool.and_eq_true_iff.1 h).2
    refine State.Move.moves (.aside ?_ rfl rfl)
    exact ⟨rfl, id, fun _ => id, le_rfl, fun _ => by simpa using hroom⟩
  · exact moves_dropForward i

theorem moves_takeDataDown (q slot : Byte) (payload : List Byte) : s.Moves (takeDataDown q slot payload s) := by
  unfold takeDataDown
  split
  · exact moves_linkError _ _
  · next i _ =>
    split
    · next h =>
      have hroom : (s.port i).downstream.length < downstreamPlaces := by simpa using (Bool.and_eq_true_iff.1 h).2
      refine moves_onPort i fun hp => ?_
      simp only [SlotPort.withinPlaces, Bool.and_eq_true, decide_eq_true_eq, List.length_append,
        List.length_singleton] at hp ⊢
      exact ⟨hp.1, hroom⟩
    · exact moves_dropForward i

theorem moves_takeBudget (q : Byte) (amount : Nat) (urgency : Urgency) : s.Moves (takeBudget q amount urgency s) := by
  unfold takeBudget
  split
  · have ha : s.Moves (s.announce q amount) := by
      unfold State.announce
      dsimp only
      split <;> exact moves_same rfl rfl rfl rfl rfl rfl
    refine .trans (.trans (ha.trans moves_recompute) (moves_requestOnChange s.bud.limit urgency)) ?_
    unfold immediateIfOver
    split
    · exact moves_budgetRound .immediate
    · exact .refl _
  · exact .refl s

theorem moves_takeNoticeAck (q : Byte) : s.Moves (takeNoticeAck q s) := moves_same rfl rfl rfl rfl rfl rfl

/-! ## The slots -/

theorem moves_enterKnown (i : Slot) (x : SlotState) (k : EventKind) : s.Moves (s.enterKnown i x k) :=
  ((moves_onPort_same i).trans (moves_evalEnable i)).trans (moves_raise k _ _)

theorem moves_enterVacant (i : Slot) (probe : Option Time) : s.Moves (s.enterVacant i probe) :=
  (moves_onPort_same i).trans (moves_evalEnable i)

theorem moves_disable (i : Slot) : s.Moves (s.disable i) :=
  (moves_onPort_same i).trans (moves_evalEnable i)

theorem moves_join (i : Slot) : s.Moves (s.join i) := by
  unfold State.join
  dsimp only
  split
  · exact (moves_onPort_same i).trans (moves_enterKnown i _ _)
  · exact (moves_onPort_same i).trans (moves_enterKnown i _ _)

theorem moves_takePresent (i : Slot) (d : Declared) : s.Moves (takePresent i d s) := by
  unfold takePresent
  split
  · have hh : s.Moves (s.hunt (.slot i)) := moves_setReceiver _ _
    refine hh.trans ?_
    dsimp only
    split
    · exact .refl _
    · split
      · exact (moves_declare i d).trans (moves_onPort_same i)
      · exact .refl _
    · split
      · exact (moves_declare i d).trans (moves_join i)
      · exact .refl _
    · exact (moves_proofOfLife i).trans (moves_declarePeak i _)
    · exact (moves_proofOfLife i).trans (moves_declarePeak i _)
    · split
      · exact ((moves_proofOfLife i).trans (moves_declare i d)).trans (moves_enterKnown i _ _)
      · exact (moves_proofOfLife i).trans (moves_declare i d)
  · exact .refl s

theorem moves_expireProbe (i : Slot) : s.Moves (expireProbe i s) := by
  unfold expireProbe
  split
  · exact .refl s
  · split
    · exact ((moves_reach _).trans (moves_order i _)).trans (moves_onPort_same i)
    · exact .refl s

theorem moves_emptyQueues (i : Slot) : s.Moves (s.emptyQueues i) := moves_onPort i fun _ => by
  simp [SlotPort.withinPlaces]

theorem moves_lose (i : Slot) : s.Moves (s.lose i) := by
  have h1 := (moves_deassert (s := s) i).trans (moves_tearAndFollow i)
  have h2 := h1.trans (moves_emptyQueues i)
  unfold State.lose
  exact (h2.trans (moves_enterVacant i _)).trans (moves_raise _ _ _)

theorem moves_closeWindow (i : Slot) : s.Moves (closeWindow i s) := by
  unfold closeWindow
  split
  · exact moves_onPort_same i
  · exact moves_onPort_same i
  · exact moves_enterVacant i _
  all_goals
    dsimp only
    split
    · exact (moves_onPort_same i).trans (moves_lose i)
    · exact moves_onPort_same i

theorem moves_expireAnswer (i : Slot) : s.Moves (expireAnswer i s) := by
  unfold expireAnswer
  split
  · exact .refl s
  · split
    · exact (moves_reach _).trans (moves_closeWindow i)
    · exact .refl s

theorem moves_endPenalty (i : Slot) : s.Moves (endPenalty i s) := by
  unfold endPenalty
  split
  · exact .refl s
  · next d _ =>
    split
    · have h : s.Moves ((s.reach d).onPort i fun p => { p with penaltyEnd := none }) :=
        (moves_reach d).trans (moves_onPort_same i)
      refine h.trans ?_
      dsimp only
      split
      · exact (moves_onPort_same i).trans (moves_evalEnable i)
      · exact moves_enterKnown i _ _
    · exact .refl s

theorem moves_resetPort (i : Slot) : s.Moves (s.resetPort i) := by
  have h1 := (moves_deassert (s := s) i).trans (moves_tearAndFollow i)
  have h2 := (h1.trans (moves_emptyQueues i)).trans
    (moves_onPort_same (f := SlotPort.restart) i)
  unfold State.resetPort
  dsimp only
  split
  · exact h2.trans (moves_enterVacant i _)
  · exact h2

/-! ## Expiries and completions -/

theorem moves_expireContract (i : Slot) (g : Byte) (deadline? : Contract → Option Time) {act : Contract → State → State}
    (h : ∀ c (u : State), u.Moves (act c u)) : s.Moves (expireContract i g deadline? act s) := by
  unfold expireContract
  split
  · exact .refl s
  · split
    · exact .refl s
    · split
      · exact (moves_reach _).trans (h _ _)
      · exact .refl s

theorem moves_closeUnaccepted (i : Slot) (g : Byte) : s.Moves (closeUnaccepted i g s) :=
  ((moves_closeContract i g).trans (moves_order i _)).trans moves_runPass

theorem moves_closeExpired (i : Slot) (g : Byte) (c : Contract) : s.Moves (closeExpired i g c s) :=
  ((moves_closeContract i g).trans (moves_order i _)).trans (moves_afterClose _)

theorem moves_takeSilence (i : Slot) (g : Byte) : s.Moves (takeSilence i g s) := by
  unfold takeSilence
  split
  · exact (moves_onGrant i g _).trans (moves_violate i _ _)
  · exact moves_violate i _ _

theorem moves_expireWait (i : Slot) (g : Byte) : s.Moves (expireWait i g s) := by
  unfold expireWait
  split
  · exact .refl s
  · split
    · exact .refl s
    · split
      · exact ((((moves_reach _).trans (moves_leaveQueue i g)).trans (moves_refuse i g _)).trans
          (moves_raise _ _ _)).trans moves_runPass
      · exact .refl s

theorem moves_expireStale : s.Moves (expireStale s) := by
  unfold expireStale
  split
  · exact .refl s
  · next d _ =>
    split
    · have h : s.Moves { s.reach d with bud.staleDeadline := none, bud.stale := true } :=
        moves_same rfl rfl rfl rfl rfl rfl
      exact ((h.trans (moves_raise _ _ _)).trans moves_recompute).trans (moves_requestOnChange _ _)
    · exact .refl s

theorem moves_expireRetransmit : s.Moves (expireRetransmit s) := by
  unfold expireRetransmit
  (repeat' split) <;> exact moves_same rfl rfl rfl rfl rfl rfl

theorem moves_completeErase : s.Moves (completeErase s) := by
  unfold completeErase
  (repeat' split) <;> exact moves_same rfl rfl rfl rfl rfl rfl

theorem moves_completeSave (asWritten : Bool) : s.Moves (completeSave asWritten s) := by
  unfold completeSave
  (repeat' split) <;> exact moves_same rfl rfl rfl rfl rfl rfl

/-! ## The transmitters -/

theorem nextFrame_within {p q : SlotPort} {f : SlotFrame} (h : p.nextFrame = some (f, q)) (hp : p.withinPlaces = true) :
    q.withinPlaces = true := by
  simp only [SlotPort.withinPlaces, Bool.and_eq_true, decide_eq_true_eq] at hp ⊢
  obtain ⟨⟨⟨hn, htag⟩, hr⟩, hd⟩ := hp
  cases ho : p.orders with
  | cons o rest =>
    obtain ⟨-, rfl⟩ : _ ∧ { p with orders := rest } = q := by simpa [SlotPort.nextFrame, ho] using h
    rw [ho] at hn htag
    have hsub := List.sublist_cons_self o rest
    exact ⟨⟨⟨hn.sublist (hsub.map _), ((hsub.filter _).length_le).trans htag⟩, hr⟩, hd⟩
  | nil =>
    cases hrep : p.replies with
    | cons r rest =>
      obtain ⟨-, rfl⟩ : _ ∧ { p with replies := rest } = q := by simpa [SlotPort.nextFrame, ho, hrep] using h
      rw [hrep, List.length_cons] at hr
      exact ⟨⟨⟨hn, htag⟩, Nat.le_of_succ_le hr⟩, hd⟩
    | nil =>
      cases hds : p.downstream with
      | cons d rest =>
        obtain ⟨-, rfl⟩ : _ ∧ { p with downstream := rest } = q := by
          simpa [SlotPort.nextFrame, ho, hrep, hds] using h
        rw [hds, List.length_cons] at hd
        exact ⟨⟨⟨hn, htag⟩, hr⟩, Nat.le_of_succ_le hd⟩
      | nil => simp [SlotPort.nextFrame, ho, hrep, hds] at h

theorem moves_beginSlot (i : Slot) : s.Moves (beginSlot i s) := by
  unfold beginSlot
  split
  · split
    · exact .refl s
    · next f p hp => exact moves_onPort (f := fun _ => { p with transmission := some ⟨f, f.bytes⟩ }) i fun h =>
        withinPlaces_congr (p := p) rfl rfl rfl (nextFrame_within hp h)
  · exact .refl s

theorem moves_beginUpstream : s.Moves (beginUpstream s) := by
  unfold beginUpstream
  split
  · split
    · next a rest ha =>
      refine State.Move.moves (.aside ?_ rfl rfl)
      exact ⟨rfl, id, fun _ => id, by simp [ha], id⟩
    · split
      · exact .refl s
      · split
        · exact moves_same rfl rfl rfl rfl rfl rfl
        · split
          · next d rest hf =>
            refine State.Move.moves (.aside ?_ rfl rfl)
            exact ⟨rfl, id, fun _ => id, le_rfl, fun h => by rw [hf] at h; exact Nat.le_of_succ_le h⟩
          · exact .refl s
  · exact .refl s

theorem moves_endUpstream : s.Moves (endUpstream s) := by
  unfold endUpstream
  (repeat' split) <;> exact moves_same rfl rfl rfl rfl rfl rfl

/-! ## A commit up to its rebuilt queue -/

theorem moves_foldl {α : Type} {f : State → α → State} (h : ∀ (u : State) (a : α), u.Moves (f u a)) (l : List α) :
    ∀ s : State, s.Moves (l.foldl f s) := by
  induction l with
  | nil => exact fun s => .refl s
  | cons a r ih => exact fun s => (h s a).trans (ih _)

theorem moves_closeForPolicy (i : Slot) : s.Moves (s.closeForPolicy i) := by
  unfold State.closeForPolicy
  refine .trans (.trans (moves_foldl (fun u c => moves_order i _) _ _) (moves_foldl (fun u e => ?_) _ _))
    (moves_removeSlot i)
  exact (moves_leaveQueue i _).trans (moves_refuse i _ _)

theorem moves_alignSlot (old : Policy) (i : Slot) : s.Moves (alignSlot old i s) := by
  unfold alignSlot
  dsimp only
  split
  · exact .refl s
  · split
    · exact (moves_closeForPolicy i).trans (moves_disable i)
    · exact moves_disable i
    · exact moves_enterVacant i _
    · split
      · exact .refl s
      · exact (moves_closeForPolicy i).trans (moves_enterKnown i _ _)
    · split
      · exact moves_enterKnown i _ _
      · exact .refl s
    · exact .refl s

/-- R119: a commit's check of a contract of the table. -/
theorem moves_checkCeiling {c : Contract} (hc : c ∈ s.adm.contracts) : s.Moves (checkCeiling c s) := by
  unfold checkCeiling
  split
  · next habove =>
    split
    · exact (moves_removeContract _ _).trans (moves_order _ _)
    · refine moves_issueShed false fun hs d hd _ => ?_
      obtain rfl : c = d := Option.some.inj ((contract?_of_mem hs.2 hc).symm.trans hd)
      have hfloor := (Policy.bounds_of_valid (hs.1.1 c.slot)).2.1
      have := roundDown_le (s.policy c.slot).step (s.policy c.slot).ceiling
      unfold commitTarget
      omega
    · exact .refl s
  · exact .refl s

theorem issueShed_contracts (i : Slot) (g : Byte) (target : Nat) (forced : Bool) :
    (s.issueShed i g target forced).adm.contracts = s.adm.contracts
      ∨ ∃ f, (s.issueShed i g target forced).adm.contracts = modifyFirst (Contract.isOf i g) f s.adm.contracts := by
  unfold State.issueShed
  split
  · exact .inl rfl
  · split
    · exact .inr ⟨_, rfl⟩
    · exact .inl rfl

theorem removeContract_contracts (i : Slot) (g : Byte) :
    (s.removeContract i g).adm.contracts = s.adm.contracts
      ∨ (s.removeContract i g).adm.contracts = s.adm.contracts.eraseP (Contract.isOf i g) := by
  unfold State.removeContract
  split
  · exact .inl rfl
  · exact .inr rfl

/-- A commit's check of one contract leaves the ones after it in the table as they are. -/
theorem sublist_checkCeiling {c : Contract} {r : List Contract} (h : (c :: r).Sublist s.adm.contracts) :
    r.Sublist (checkCeiling c s).adm.contracts := by
  have hr := (List.sublist_cons_self c r).trans h
  unfold checkCeiling
  split
  · split
    · rw [order_adm]
      rcases removeContract_contracts (s := s) c.slot c.tag with he | he <;> rw [he]
      · exact hr
      · exact sublist_eraseP (Contract.isOf_self c) h
    · rcases issueShed_contracts (s := s) c.slot c.tag (commitTarget (s.policy c.slot)) false with he | ⟨f, he⟩ <;> rw [he]
      · exact hr
      · exact sublist_modifyFirst (Contract.isOf_self c) h
    · exact hr
  · exact hr

theorem moves_checkCeilings_of_sublist (l : List Contract) : ∀ s : State, l.Sublist s.adm.contracts →
    s.Moves (l.foldl (fun s c => checkCeiling c s) s) := by
  induction l with
  | nil => exact fun s _ => .refl s
  | cons c r ih =>
    intro s h
    exact (moves_checkCeiling (h.subset (by simp))).trans (ih _ (sublist_checkCeiling h))

theorem moves_checkEntry (e : QueueEntry) : s.Moves (checkEntry e s) := by
  unfold checkEntry
  split
  · exact (moves_leaveQueue _ _).trans (moves_refuse _ _ _)
  · exact .refl s

/-- Stages 2 to 4 of a commit, up to the rebuilding of the queue (R117). -/
def commitChecks (old : Vector Policy 8) (s : State) : State :=
  let checked := checkCeilings (alignSlots old s)
  checked.adm.queue.foldl (fun s e => checkEntry e s) checked

theorem moves_commitChecks (old : Vector Policy 8) : s.Moves (commitChecks old s) :=
  ((moves_foldl (fun _ i => moves_alignSlot (old.get i) i) allSlots s).trans
    (moves_checkCeilings_of_sublist _ _ (List.Sublist.refl _))).trans (moves_foldl (fun _ e => moves_checkEntry e) _ _)

/-! ## The rebuilt queue (R40) -/

theorem pairwise_idxOf {α : Type} [BEq α] [LawfulBEq α] {l : List α} (h : l.Nodup) :
    l.Pairwise fun a b => l.idxOf a < l.idxOf b := by
  rw [List.pairwise_iff_getElem]
  intro i j hi hj hij
  rwa [h.idxOf_getElem i hi, h.idxOf_getElem j hj]

/-- The entries in arrival order are the entries of the pairs in arrival order. -/
theorem map_key_arrivals (h : s.KeysSound) : s.arrivals.map QueueEntry.key = s.adm.arrival := by
  have hl : ∀ l : List (Slot × Byte), (∀ k ∈ l, k ∈ s.adm.queue.map QueueEntry.key) →
      (l.filterMap fun k => s.adm.queue.find? (QueueEntry.isOf k.1 k.2)).map QueueEntry.key = l := by
    intro l
    induction l with
    | nil => exact fun _ => rfl
    | cons k r ih =>
      intro hk
      obtain ⟨e, he, rfl⟩ := List.mem_map.1 (hk k (by simp))
      have hf : s.adm.queue.find? (QueueEntry.isOf e.key.1 e.key.2) = some e := claim?_of_mem h he
      simp only [List.filterMap_cons, hf, List.map_cons, ih fun x hx => hk x (by simp [hx])]
  exact hl _ fun k hk => h.2.mem_iff.1 hk

/-- Entries inserted one after the other, each later in the arrival order than those before, stand in service order. -/
theorem foldl_insertEntry {arrival : List (Slot × Byte)} (l : List QueueEntry) : ∀ acc : List QueueEntry,
    (acc.map QueueEntry.key).Pairwise (before s.classOf arrival) →
    (∀ x ∈ acc, ∀ y ∈ l, arrival.idxOf x.key < arrival.idxOf y.key) →
    l.Pairwise (fun x y => arrival.idxOf x.key < arrival.idxOf y.key) →
    ((l.foldl (fun sorted e => s.insertEntry e sorted) acc).map QueueEntry.key).Pairwise (before s.classOf arrival)
      ∧ (l.foldl (fun sorted e => s.insertEntry e sorted) acc).Perm (acc ++ l) := by
  induction l with
  | nil => exact fun acc hacc _ _ => ⟨hacc, by simp⟩
  | cons e r ih =>
    intro acc hacc hlt hl
    obtain ⟨he, hr⟩ := List.pairwise_cons.1 hl
    have hins := insertEntry_perm s e acc
    obtain ⟨hsorted, hperm⟩ := ih (s.insertEntry e acc)
      (pairwise_insertEntry hacc fun x hx => hlt x hx e (by simp))
      (fun x hx y hy => by
        rcases List.mem_cons.1 (hins.mem_iff.1 hx) with rfl | hx
        · exact he y hy
        · exact hlt x hx y (by simp [hy])) hr
    exact ⟨hsorted, hperm.trans ((hins.append_right r).trans List.perm_middle.symm)⟩

/-- R28, R40: the rebuilt queue holds the entries in arrival order, sorted by class. -/
theorem rebuildQueue_spec (h : s.KeysSound) : s.rebuildQueue.adm.queue.Perm s.arrivals ∧ s.rebuildQueue.InService := by
  have hkeys := map_key_arrivals h
  have hpair : (s.arrivals.map QueueEntry.key).Pairwise fun a b => s.adm.arrival.idxOf a < s.adm.arrival.idxOf b := by
    rw [hkeys]
    exact pairwise_idxOf h.arrival_nodup
  rw [List.pairwise_map] at hpair
  obtain ⟨hsorted, hperm⟩ := foldl_insertEntry (s := s) (arrival := s.adm.arrival) s.arrivals [] .nil (by simp) hpair
  exact ⟨hperm, hsorted⟩

theorem rebuildQueue_keys (h : s.KeysSound) :
    (s.rebuildQueue.adm.queue.map QueueEntry.key).Perm (s.adm.queue.map QueueEntry.key) :=
  ((rebuildQueue_spec h).1.map _).trans (map_key_arrivals h ▸ h.2)

theorem keysSound_rebuildQueue (h : s.KeysSound) : s.rebuildQueue.KeysSound :=
  ⟨((rebuildQueue_keys h).append_left _).nodup_iff.2 h.1, h.2.trans (rebuildQueue_keys h).symm⟩

/-! ## What a command can do to the tables -/

/-- Stage 1 of a commit (R117): the shadow records become the active ones. -/
def State.swapped (s : State) : State := { s with pol.active := s.pol.shadow, pol.dirty := false }

/-- What the effect of a command is made of: moves, and in a commit moves from the swapped records to the rebuilding of
the queue, and moves from there. -/
inductive State.Act (s : State) : State → Prop
  | moves {t : State} (h : s.Moves t) : Act s t
  | commit {u t : State} (h : s.swapped.Moves u) (k : u.rebuildQueue.Moves t) : Act s t

/-- What a step is made of: effects of commands, and answers placed where there is a place (R129). -/
inductive State.Change (s : State) : State → Prop
  | act {t : State} (h : s.Act t) : Change s t
  | push (a : Answer) (h : s.man.answers.length < answerPlaces) : Change s (s.pushAnswer a)

/-- A chain of effects and answers. -/
def State.Changes : State → State → Prop := Relation.ReflTransGen State.Change

theorem State.Act.changes (h : s.Act t) : s.Changes t := .single (.act h)
theorem State.Moves.changes (h : s.Moves t) : s.Changes t := (State.Act.moves h).changes
theorem State.Changes.refl (s : State) : s.Changes s := Relation.ReflTransGen.refl
theorem State.Changes.trans (h : s.Changes t) (k : t.Changes u) : s.Changes u := Relation.ReflTransGen.trans h k

/-- A law `P` is kept by every chain of changes, when moves keep it, and when a commit finds some law `W` after the swap
which moves keep and from which the rebuilding of the queue leads back to `P`. -/
theorem State.Changes.keeps {P W : State → Prop} (hP : ∀ u v : State, u.Move v → P u → P v)
    (hW : ∀ u v : State, u.Move v → W u → W v) (hswap : ∀ u : State, P u → W u.swapped)
    (hsort : ∀ u : State, W u → P u.rebuildQueue)
    (hpush : ∀ (u : State) (a : Answer), u.man.answers.length < answerPlaces → P u → P (u.pushAnswer a))
    (h : s.Changes t) (hs : P s) : P t := by
  induction h with
  | refl => exact hs
  | tail _ hc ih =>
    cases hc with
    | act ha =>
      cases ha with
      | moves hm => exact hm.keeps hP ih
      | commit hm hk => exact hk.keeps hP (hsort _ (hm.keeps hW (hswap _ ih)))
    | push a hroom => exact hpush _ a hroom ih

theorem State.Moves.answers_le (h : s.Moves t) : t.man.answers.length ≤ s.man.answers.length :=
  h.keeps (P := fun u => u.man.answers.length ≤ s.man.answers.length) (fun _ _ hm hu => hm.answers.trans hu) le_rfl

theorem State.Act.answers_le (h : s.Act t) : t.man.answers.length ≤ s.man.answers.length := by
  cases h with
  | moves h => exact h.answers_le
  | commit h k => exact k.answers_le.trans h.answers_le

/-! ## The management commands -/

theorem changes_supplyFrame {handle : State → State} (h : ∀ u : State, u.Changes (handle u)) :
    s.Changes (supplyFrame handle s) := by
  unfold supplyFrame
  split
  · exact (moves_setReceiver .supply _).changes.trans (h _)
  · exact .refl s

/-- R129: a command's effect comes with its ANSWER, where the answer queue has a place. -/
theorem changes_takeCommand (q : Byte) {run : State → State × Settle} (h : ∀ u : State, u.Act (run u).1) :
    s.Changes (takeCommand q run s) := by
  refine changes_supplyFrame fun u => ?_
  split
  · exact .refl u
  · next hroom =>
    have hroom := Nat.lt_of_not_le hroom
    unfold answerCommand
    split
    · exact .single (.push _ hroom)
    · refine .trans ((h u).changes.trans (.single (.push ⟨q, (run u).2⟩ ((h u).answers_le.trans_lt hroom)))) ?_
      exact State.Moves.changes (by exact moves_same rfl rfl rfl rfl rfl rfl)

theorem act_runReadEntry (table index : Byte) : s.Act (runReadEntry table index s).1 := by
  unfold runReadEntry naked
  (repeat' split) <;> exact .moves (.refl s)

theorem act_runClearEvents (count : Byte) (kinds : List Byte) : s.Act (runClearEvents count kinds s).1 := by
  unfold runClearEvents naked acked
  (repeat' split) <;> exact .moves (moves_same rfl rfl rfl rfl rfl rfl)

theorem act_runForceShed (slot g : Byte) (target : Nat) : s.Act (runForceShed slot g target s).1 := by
  unfold runForceShed naked acked
  split
  · exact .moves (.refl s)
  · split
    · exact .moves (.refl s)
    · next c hc =>
      split
      · exact .moves (.refl s)
      · split
        · exact .moves (.refl s)
        · next hlt =>
          refine .moves (moves_issueShed true fun _ d hd _ => ?_)
          obtain rfl : c = d := Option.some.inj (hc.symm.trans hd)
          omega

theorem act_runForceClose (slot g : Byte) : s.Act (runForceClose slot g s).1 := by
  unfold runForceClose naked acked
  split
  · exact .moves (.refl s)
  · split
    · exact .moves (.refl s)
    · exact .moves (((moves_closeContract _ _).trans (moves_order _ _)).trans (moves_afterClose _))

theorem act_runForceCut (slot : Byte) : s.Act (runForceCut slot s).1 := by
  unfold runForceCut naked acked
  split
  · exact .moves (.refl s)
  · split
    · exact .moves (moves_cutAndFollow _ _)
    · exact .moves (.refl s)

theorem act_runPortReset (slot : Byte) : s.Act (runPortReset slot s).1 := by
  unfold runPortReset naked acked
  split
  · exact .moves (.refl s)
  · exact .moves (moves_resetPort _)

theorem act_runRestart : s.Act (runRestart s).1 := by
  unfold runRestart naked acked
  split <;> exact .moves (moves_same rfl rfl rfl rfl rfl rfl)

theorem act_storeCommand (page : Byte) {own : Slot → State → State × Settle}
    (h : ∀ (p : Slot) (u : State), u.Act (own p u).1) : s.Act (storeCommand page own s).1 := by
  unfold storeCommand naked
  split
  · exact .moves (.refl s)
  · split
    · exact .moves (.refl s)
    · exact h _ s

theorem act_ownErase (p : Slot) : s.Act (ownErase p s).1 := by
  unfold ownErase naked acked
  split <;> exact .moves (moves_same rfl rfl rfl rfl rfl rfl)

theorem act_ownSave (p : Slot) : s.Act (ownSave p s).1 := by
  unfold ownSave naked acked
  (repeat' split) <;> exact .moves (moves_same rfl rfl rfl rfl rfl rfl)

theorem act_ownLoad (p : Slot) : s.Act (ownLoad p s).1 := by
  unfold ownLoad naked acked
  split <;> exact .moves (moves_same rfl rfl rfl rfl rfl rfl)

theorem valid_of_ofBytes? {bytes : List Byte} {p : Policy} (h : Policy.ofBytes? bytes = some p) : p.valid = true := by
  unfold Policy.ofBytes? at h
  split at h
  · simp only [Option.bind_eq_bind, Option.bind_eq_some_iff] at h
    obtain ⟨_, -, _, -, _, -, _, -, _, -, h⟩ := h
    split at h
    · next hv => exact Option.some.inj h ▸ hv
    · simp at h
  · simp at h

theorem act_runWritePolicy (slot : Byte) (record : List Byte) : s.Act (runWritePolicy slot record s).1 := by
  unfold runWritePolicy naked acked
  split
  · exact .moves (.refl s)
  · next i _ =>
    split
    · exact .moves (.refl s)
    · next p hp =>
      refine .moves (moves_records rfl rfl rfl (fun hs j => ?_) rfl rfl rfl)
      by_cases hj : j = i
      · subst hj
        simpa using valid_of_ofBytes? hp
      · simpa [get_set_other _ _ hj] using hs.2 j

theorem act_runDiscard : s.Act (runDiscard s).1 :=
  .moves (moves_records rfl rfl rfl (fun hs => hs.1) rfl rfl rfl)

theorem commitStages_eq (s : State) : commitStages s =
    recheck (runPass (evalFlags (commitChecks s.pol.active s.swapped).rebuildQueue)) := rfl

theorem act_runCommit : s.Act (runCommit s).1 := by
  unfold runCommit acked
  split
  · dsimp only
    rw [commitStages_eq]
    refine .commit (moves_commitChecks s.pol.active) (.trans ?_ (moves_budgetRound .normal))
    exact moves_evalFlags.trans moves_runPass
  · exact .moves (.refl s)

theorem moves_configEffect (item : ConfigItem) : s.Moves (configEffect item s) := by
  have hfigures : s.Moves (requestOnConfig s.bud.limit (recompute s)) := moves_recompute.trans (moves_requestOnConfig _)
  have hmarks : s.Moves (newMarks s) :=
    .trans (t := { s with bud := workOutMarks s.bud s.pol.items }) (moves_same rfl rfl rfl rfl rfl rfl)
      moves_evalWatermark
  cases item with
  | budgetCap => exact hfigures
  | safeBudget => exact hfigures
  | reserve => exact hfigures
  | highMark => exact hmarks
  | lowMark => exact hmarks
  | _ => exact .refl s

theorem act_runSetConfig (item : Byte) (body : List Byte) : s.Act (runSetConfig item body s).1 := by
  unfold runSetConfig naked acked
  split
  · exact .moves (.refl s)
  · next it items _ =>
    exact .moves (.trans (t := { s with pol.items := items }) (moves_records rfl rfl rfl (fun hs => hs.2) rfl rfl rfl)
      (moves_configEffect it))

/-! ## Frames and bytes -/

/-- What a frame does, its receiver's hunting included, is a chain of changes (R178). -/
theorem changes_takeFrame (c : Instr) : s.Changes (takeFrame c s) := by
  cases c with
  | claim i g want least => exact (moves_moduleFrame i fun _ => moves_takeClaim i g _ _).changes
  | accept i g => exact (moves_moduleFrame i fun _ => moves_takeAccept i g).changes
  | decline i g => exact (moves_moduleFrame i fun _ => moves_takeDecline i g).changes
  | release i g => exact (moves_moduleFrame i fun _ => moves_takeRelease i g).changes
  | adjust i g amount => exact (moves_moduleFrame i fun _ => moves_takeAdjust i g _).changes
  | renew i g => exact (moves_moduleFrame i fun _ => moves_takeRenew i g).changes
  | report i g measured => exact (moves_moduleFrame i fun _ => moves_takeReport i g _).changes
  | comply i g => exact (moves_moduleFrame i fun _ => moves_takeComply i g).changes
  | present i cls peak => exact (moves_takePresent i _).changes
  | data i q payload => exact (moves_moduleFrame i fun _ => moves_takeData i q payload).changes
  | budget q amount urgency => exact (moves_supplyFrame fun _ => moves_takeBudget q _ urgency).changes
  | noticeAck q => exact (moves_supplyFrame fun _ => moves_takeNoticeAck q).changes
  | dataDown q slot payload => exact (moves_supplyFrame fun _ => moves_takeDataDown q slot payload).changes
  | queryStatus q => exact changes_takeCommand q fun u => .moves (.refl u)
  | readEntry q table index => exact changes_takeCommand q fun _ => act_runReadEntry table index
  | writePolicy q slot record => exact changes_takeCommand q fun _ => act_runWritePolicy slot record
  | discard q => exact changes_takeCommand q fun _ => act_runDiscard
  | commit q => exact changes_takeCommand q fun _ => act_runCommit
  | setConfig q item body => exact changes_takeCommand q fun _ => act_runSetConfig item body
  | clearEvents q count kinds => exact changes_takeCommand q fun _ => act_runClearEvents count kinds
  | forceShed q slot g target => exact changes_takeCommand q fun _ => act_runForceShed slot g _
  | forceClose q slot g => exact changes_takeCommand q fun _ => act_runForceClose slot g
  | forceCut q slot => exact changes_takeCommand q fun _ => act_runForceCut slot
  | portReset q slot => exact changes_takeCommand q fun _ => act_runPortReset slot
  | storeErase q page => exact changes_takeCommand q fun _ => act_storeCommand page fun p _ => act_ownErase p
  | storeSave q page => exact changes_takeCommand q fun _ => act_storeCommand page fun p _ => act_ownSave p
  | storeLoad q page => exact changes_takeCommand q fun _ => act_storeCommand page fun p _ => act_ownLoad p
  | restart q => exact changes_takeCommand q fun _ => act_runRestart
  | _ => exact .refl s

theorem changes_receiveOn (link : Link) (b : Byte) : s.Changes (receiveOn link s b) := by
  unfold receiveOn
  split
  · dsimp only
    generalize hr : s.setReceiver link _ = heard
    have hheard : s.Changes heard := hr ▸ (moves_setReceiver link _).changes
    split
    · exact hheard
    · refine hheard.trans ?_
      unfold takeVerdict
      split
      · exact changes_takeFrame _
      · exact .refl _
      · exact (moves_linkError link _).changes
  · exact .refl s

theorem changes_receiveAll (link : Link) (bytes : List Byte) : ∀ s : State, s.Changes (bytes.foldl (receiveOn link) s) := by
  induction bytes with
  | nil => exact fun s => .refl s
  | cons b r ih => exact fun s => (changes_receiveOn link b).trans (ih _)

/-! ## What a step can do -/

/-- The records and items of an image put in force by a load, before its figures are worked out (R162). -/
def State.loading (s : State) (img : Image) : State :=
  { s with pol.shadow := img.policies, pol.dirty := true, pol.items := img.items }

/-- What a command does to the tables, for every command: a chain of changes, from the state itself or from the records
and items that a load or the scan's end has put in force; or a reset. -/
inductive State.Outcome (s : State) : State → Prop
  | changes {t : State} (h : s.Changes t) : Outcome s t
  | load {t : State} {p : Slot} {img : Image} (hpage : s.page p = .valid img) (h : (s.loading img).Changes t) :
      Outcome s t
  | scan {t : State} (hpart : s.part = .starting) (h : (placeImage (choosePage s.store.pages) s).Changes t) :
      Outcome s t
  | reset (straps : BitVec 2) (asWritten : BitVec 8) : Outcome s (s.restarted straps asWritten)

theorem outcome_completeLoad : s.Outcome (completeLoad s) := by
  unfold completeLoad
  split
  · next p _ =>
    have hend : ∀ u : State, u.Moves (({ u with store.op := none } : State).raise .storeDone none p.val) := fun u =>
      moves_same rfl rfl rfl rfl rfl rfl
    dsimp only
    split
    · next img hp =>
      have hplaced : (s.loading img).Moves (placeLoaded img s) := moves_recompute.trans (moves_requestOnConfig _)
      exact .load hp (hplaced.trans (hend _)).changes
    · exact .changes (hend s).changes
    · exact .changes (hend s).changes
  all_goals exact .changes (.refl s)

theorem moves_openSlots : s.Moves (openSlots s) := by
  refine moves_foldl (fun u i => ?_) _ s
  split
  · exact moves_enterVacant i _
  · exact .refl u

theorem outcome_endScan : s.Outcome (endScan s) := by
  unfold endScan
  split
  · next hpart =>
    refine .scan hpart (State.Moves.changes ?_)
    have hfigures : (placeImage (choosePage s.store.pages) s).Moves
        { firstFigures (placeImage (choosePage s.store.pages) s) with part := .running } :=
      moves_same rfl rfl rfl rfl rfl rfl
    exact (hfigures.trans moves_openSlots).trans (moves_raise _ _ _)
  · exact .changes (.refl s)

/-- Every command: what it does to the tables (R6 to R183). -/
theorem exec_outcome (c : Instr) (h : exec c s = .next t) : s.Outcome t := by
  have hm : ∀ {u : State}, s.Moves u → (Host.Outcome.next u : Out) = .next t → s.Outcome t := by
    rintro u hu ⟨⟩
    exact .changes hu.changes
  have hf : ∀ {f : Prop} [Decidable f] {u v : State}, s.Changes u → s.Moves v →
      (Host.Outcome.next (if f then u else v) : Out) = .next t → s.Outcome t := by
    rintro f _ u v hu hv ⟨⟩
    split
    · exact .changes hu
    · exact .changes hv.changes
  have hc : ∀ {d : Instr}, (Host.Outcome.next (takeFrame d s) : Out) = .next t → s.Outcome t := by
    rintro d ⟨⟩
    exact .changes (changes_takeFrame d)
  cases c with
  | claim i g want least => exact hc (d := .claim i g want least) h
  | accept i g => exact hc (d := .accept i g) h
  | decline i g => exact hc (d := .decline i g) h
  | release i g => exact hc (d := .release i g) h
  | adjust i g amount => exact hc (d := .adjust i g amount) h
  | renew i g => exact hc (d := .renew i g) h
  | report i g measured => exact hc (d := .report i g measured) h
  | comply i g => exact hc (d := .comply i g) h
  | present i cls peak => exact hc (d := .present i cls peak) h
  | data i q payload => exact hf (changes_takeFrame (.data i q payload)) (moves_malformedFrame _) h
  | frameReceiveError link bytes =>
    cases h
    exact .changes (changes_receiveAll link bytes s)
  | byteGapTimeout link => exact hm (moves_abandonFrame link) h
  | budget q amount urgency => exact hc (d := .budget q amount urgency) h
  | noticeAck q => exact hc (d := .noticeAck q) h
  | dataDown q slot payload => exact hf (changes_takeFrame (.dataDown q slot payload)) (moves_malformedFrame _) h
  | queryStatus q => exact hc (d := .queryStatus q) h
  | readEntry q table index => exact hc (d := .readEntry q table index) h
  | writePolicy q slot record => exact hf (changes_takeFrame (.writePolicy q slot record)) (moves_malformedFrame _) h
  | discard q => exact hc (d := .discard q) h
  | commit q => exact hc (d := .commit q) h
  | setConfig q item body => exact hf (changes_takeFrame (.setConfig q item body)) (moves_malformedFrame _) h
  | clearEvents q count kinds => exact hf (changes_takeFrame (.clearEvents q count kinds)) (moves_malformedFrame _) h
  | forceShed q slot g target => exact hc (d := .forceShed q slot g target) h
  | forceClose q slot g => exact hc (d := .forceClose q slot g) h
  | forceCut q slot => exact hc (d := .forceCut q slot) h
  | portReset q slot => exact hc (d := .portReset q slot) h
  | storeErase q page => exact hc (d := .storeErase q page) h
  | storeSave q page => exact hc (d := .storeSave q page) h
  | storeLoad q page => exact hc (d := .storeLoad q page) h
  | restart q => exact hc (d := .restart q) h
  | offerDeadline i g => exact hm (moves_expireContract i g _ fun _ _ => moves_closeUnaccepted i g) h
  | leaseExpiry i g => exact hm (moves_expireContract i g _ fun c _ => moves_closeExpired i g c) h
  | waitDeadline i g => exact hm (moves_expireWait i g) h
  | staleDeadline => exact hm moves_expireStale h
  | shedDeadline i g => exact hm (moves_expireContract i g _ fun _ _ => moves_cutAndFollow i _) h
  | reportDeadline i g => exact hm (moves_expireContract i g _ fun _ _ => moves_takeSilence i g) h
  | penaltyEndTime i => exact hm (moves_endPenalty i) h
  | probeDeadline i => exact hm (moves_expireProbe i) h
  | answerDeadline i => exact hm (moves_expireAnswer i) h
  | retransmitDeadline => exact hm moves_expireRetransmit h
  | storeEraseCompletion => exact hm moves_completeErase h
  | storeSaveCompletion asWritten => exact hm (moves_completeSave asWritten) h
  | storeLoadCompletion =>
    cases h
    exact outcome_completeLoad
  | slotTransmissionBegin i => exact hm (moves_beginSlot i) h
  | slotTransmissionSent i => exact hm (moves_onPort_same i) h
  | upstreamTransmissionBegin => exact hm moves_beginUpstream h
  | upstreamTransmissionSent => exact hm moves_endUpstream h
  | restartTakesEffect straps asWritten =>
    cases h
    split
    · exact .reset straps asWritten
    · exact .changes (.refl s)
  | hardReset straps asWritten =>
    cases h
    exact .reset straps asWritten
  | startUpScanEnd =>
    cases h
    exact outcome_endScan

/-- A step is its front command, taken from the queue of waiting commands, or a tick. -/
theorem step_outcome (h : step s = .next t) : s.Moves t ∨ ∃ rest, State.Outcome { s with pending := rest } t := by
  unfold step at h
  split at h
  · cases h
    exact .inl (moves_same rfl rfl rfl rfl rfl rfl)
  · exact .inr ⟨_, exec_outcome _ h⟩

/-! ## Records that a load or the scan's end puts in force -/

theorem recordsValid_of_tablesValid (h : s.TablesValid) : s.RecordsValid := ⟨h.1, h.2.1⟩

theorem policies_valid_of_sound {img : Image} (h : img.sound = true) (i : Slot) : (img.policies.get i).valid = true := by
  simp only [Image.sound, Bool.and_eq_true, List.all_eq_true] at h
  exact h.1.1 _ (by simp [Vector.get])

theorem recordsValid_loading {p : Slot} {img : Image} (h : s.TablesValid) (hp : s.page p = .valid img) :
    (s.loading img).RecordsValid := by
  obtain ⟨hactive, -, -, hpages, -⟩ := h
  have hsound := hpages p
  rw [hp] at hsound
  exact ⟨hactive, policies_valid_of_sound hsound⟩

/-- The scan's choice is an image that one of the pages holds (R165). -/
theorem choosePage_spec {pages : Vector Page 8} {p : Slot} {img : Image} (h : choosePage pages = some (p, img)) :
    pages.get p = .valid img := by
  unfold choosePage at h
  obtain ⟨g, -, h⟩ := Option.bind_eq_some_iff.1 h
  obtain ⟨q, -, hq⟩ := List.exists_of_findSome?_eq_some h
  split at hq
  · next img' hpage =>
    split at hq
    · cases hq
      exact hpage
    · simp at hq
  · simp at hq
  · simp at hq

theorem recordsValid_placeImage (h : s.TablesValid) : (placeImage (choosePage s.store.pages) s).RecordsValid := by
  obtain ⟨-, -, -, hpages, -⟩ := h
  cases hc : choosePage s.store.pages with
  | none =>
    have hd : ∀ i : Slot, ((Vector.replicate 8 defaultPolicy).get i).valid = true := fun i => by
      rw [get_replicate]; decide
    exact ⟨hd, hd⟩
  | some choice =>
    obtain ⟨p, img⟩ := choice
    have hsound := hpages p
    rw [State.page, choosePage_spec hc] at hsound
    exact ⟨policies_valid_of_sound hsound, policies_valid_of_sound hsound⟩

/-- What an image that is put in force leaves alone. -/
theorem placeImage_rest (choice : Option (Slot × Image)) :
    (placeImage choice s).adm = s.adm ∧ (placeImage choice s).eng = s.eng ∧ (placeImage choice s).ports = s.ports
      ∧ (placeImage choice s).man = s.man ∧ (placeImage choice s).forward = s.forward := by
  unfold placeImage; split <;> exact ⟨rfl, rfl, rfl, rfl, rfl⟩

/-! ## The accounts (R4, R65) -/

theorem accounts_of_tables (hadm : t.adm = s.adm) (heng : t.eng = s.eng) (hs : s.Accounts) : t.Accounts := by
  unfold State.Accounts; rwa [hadm, heng]

theorem recordsValid_swapped (h : s.RecordsValid) : s.swapped.RecordsValid := ⟨h.2, h.2⟩

theorem State.Changes.accounts (h : s.Changes t) (hv : s.RecordsValid) (hk : s.KeysSound) (hs : s.Accounts) :
    t.Accounts := by
  have hmove : ∀ u v : State, u.Move v → u.Sound ∧ u.Accounts → v.Sound ∧ v.Accounts := fun _ _ hm hu =>
    ⟨hm.sound hu.1, hm.accounts hu.1 hu.2⟩
  exact (h.keeps (P := fun u => u.Sound ∧ u.Accounts) hmove hmove
    (fun u hu => ⟨⟨recordsValid_swapped hu.1.1, hu.1.2⟩, hu.2⟩)
    (fun u hu => ⟨⟨hu.1.1, keysSound_rebuildQueue hu.1.2⟩, hu.2⟩) (fun _ _ _ hu => hu) ⟨⟨hv, hk⟩, hs⟩).2

theorem State.Outcome.accounts (h : s.Outcome t) (hv : s.TablesValid) (hk : s.KeysSound) (hs : s.Accounts) :
    t.Accounts := by
  cases h with
  | changes h => exact h.accounts (recordsValid_of_tablesValid hv) hk hs
  | load hp h => exact h.accounts (recordsValid_loading hv hp) hk hs
  | scan _ h =>
    obtain ⟨hadm, heng, -⟩ := placeImage_rest (s := s) (choosePage s.store.pages)
    exact h.accounts (recordsValid_placeImage hv) (keysSound_of_adm hadm hk) (accounts_of_tables hadm heng hs)
  | reset => exact ⟨rfl, rfl, by simp [State.restarted, State.reset, resetAdmission]⟩

/-- Settles O5: each of the moves that a command is made of keeps the sums exact. -/
theorem accountsStayExact : Obligations.AccountsStayExact := by
  intro s t hv hq hs hstep
  obtain ⟨hk, -⟩ := queueOrdered_iff.1 hq
  rcases step_outcome hstep with h | ⟨rest, h⟩
  · exact h.changes.accounts (recordsValid_of_tablesValid hv) hk hs
  · exact h.accounts hv hk hs

/-! ## The order of the queue (R3, R28) -/

theorem queueOrdered_of_adm_reset (h : t.adm = resetAdmission) : t.QueueOrdered := by
  unfold State.QueueOrdered
  rw [h]
  exact ⟨List.nodup_nil, .nil, .nil⟩

theorem State.Changes.queueOrdered (h : s.Changes t) (hs : s.QueueOrdered) : t.QueueOrdered := by
  rw [queueOrdered_iff] at hs ⊢
  exact h.keeps (P := fun u => u.KeysSound ∧ u.InService) (W := State.KeysSound)
    (fun _ _ hm hu => ⟨hm.keysSound hu.1, hm.inService hu.1 hu.2⟩) (fun _ _ hm hu => hm.keysSound hu)
    (fun _ hu => hu.1) (fun _ hu => ⟨keysSound_rebuildQueue hu, (rebuildQueue_spec hu).2⟩) (fun _ _ _ hu => hu) hs

theorem State.Outcome.queueOrdered (h : s.Outcome t) (hclean : s.StartsClean) (hs : s.QueueOrdered) : t.QueueOrdered := by
  cases h with
  | changes h => exact h.queueOrdered hs
  | load _ h => exact h.queueOrdered hs
  | scan hpart h =>
    obtain ⟨-, -, hadm, -⟩ := hclean hpart
    exact h.queueOrdered (queueOrdered_of_adm_reset ((placeImage_rest _).1.trans hadm))
  | reset => exact queueOrdered_of_adm_reset rfl

/-- Settles O6: each move keeps the order, a commit sorts anew after its swap of the classes, and the queue is empty
where the scan's end puts records in force. -/
theorem queueStaysOrdered : Obligations.QueueStaysOrdered := by
  intro s t hclean hs hstep
  rcases step_outcome hstep with h | ⟨rest, h⟩
  · exact h.changes.queueOrdered hs
  · exact h.queueOrdered hclean hs

/-! ## The places (R1, R27, R104 to R107, R128, R168) -/

/-- The laws of `WithinPlaces` with those of the ports, the answers and the forward queue apart from the tables'. -/
theorem withinPlaces_iff : s.WithinPlaces ↔ s.TablesWithin ∧ s.man.answers.length ≤ answerPlaces
    ∧ s.forward.length ≤ forwardPlaces ∧ ∀ i, (s.port i).withinPlaces = true := by
  unfold State.WithinPlaces State.TablesWithin
  constructor
  · rintro ⟨hc, hq, ha, hf, hp⟩
    exact ⟨⟨hc, hq, fun i => (hp i).2⟩, ha, hf, fun i => (hp i).1⟩
  · rintro ⟨⟨hc, hq, hh⟩, ha, hf, hp⟩
    exact ⟨hc, hq, ha, hf, fun i => ⟨hp i, hh i⟩⟩

theorem State.Move.withinPlaces (h : s.Move t) (hv : s.RecordsValid) (hs : s.WithinPlaces) : t.WithinPlaces := by
  rw [withinPlaces_iff] at hs ⊢
  obtain ⟨htab, ha, hf, hp⟩ := hs
  exact ⟨h.tablesWithin hv htab, h.answers.trans ha, h.forward hf, fun i => h.ports i (hp i)⟩

theorem withinPlaces_of_rest (hadm : t.adm = s.adm) (hports : t.ports = s.ports) (hman : t.man = s.man)
    (hfwd : t.forward = s.forward) (hs : s.WithinPlaces) : t.WithinPlaces := by
  have hport : ∀ i, t.port i = s.port i := port_congr hports
  have hheld : ∀ i, t.heldBy i = s.heldBy i := fun i => by simp only [heldBy_eq, hadm]
  unfold State.WithinPlaces
  simp only [hadm, hman, hfwd, hport, hheld]
  exact hs

theorem withinPlaces_rebuildQueue (hk : s.KeysSound) (hs : s.WithinPlaces) : s.rebuildQueue.WithinPlaces := by
  rw [withinPlaces_iff] at hs ⊢
  obtain ⟨htab, hrest⟩ := hs
  have hkeys := rebuildQueue_keys hk
  refine ⟨tablesWithin_of_le htab le_rfl (by simpa using hkeys.length_eq.le) (fun i => ?_), hrest⟩
  rw [heldBy_eq, heldBy_eq, hkeys.countP_eq]
  rfl

theorem State.Changes.withinPlaces (h : s.Changes t) (hv : s.RecordsValid) (hk : s.KeysSound) (hs : s.WithinPlaces) :
    t.WithinPlaces := by
  have hmove : ∀ u v : State, u.Move v → u.Sound ∧ u.WithinPlaces → v.Sound ∧ v.WithinPlaces := fun _ _ hm hu =>
    ⟨hm.sound hu.1, hm.withinPlaces hu.1.1 hu.2⟩
  refine (h.keeps (P := fun u => u.Sound ∧ u.WithinPlaces) hmove hmove
    (fun u hu => ⟨⟨recordsValid_swapped hu.1.1, hu.1.2⟩, hu.2⟩)
    (fun u hu => ⟨⟨hu.1.1, keysSound_rebuildQueue hu.1.2⟩, withinPlaces_rebuildQueue hu.1.2 hu.2⟩)
    (fun u a hroom hu => ⟨hu.1, ?_⟩) ⟨⟨hv, hk⟩, hs⟩).2
  obtain ⟨hc, hq, -, hrest⟩ := hu.2
  exact ⟨hc, hq, by simpa [State.pushAnswer] using hroom, hrest⟩

theorem withinPlaces_restarted (straps : BitVec 2) (asWritten : BitVec 8) :
    (s.restarted straps asWritten).WithinPlaces := by
  refine withinPlaces_of_rest (s := State.reset) rfl rfl rfl rfl ⟨by decide, by decide, by decide, by decide, fun i => ?_⟩
  have hport : State.reset.port i = Sys2Proof.Machine.resetPort := get_replicate _ i
  exact ⟨by rw [hport]; decide, Nat.zero_le 4⟩

theorem State.Outcome.withinPlaces (h : s.Outcome t) (hv : s.TablesValid) (hk : s.KeysSound) (hs : s.WithinPlaces) :
    t.WithinPlaces := by
  cases h with
  | changes h => exact h.withinPlaces (recordsValid_of_tablesValid hv) hk hs
  | load hp h => exact h.withinPlaces (recordsValid_loading hv hp) hk hs
  | scan _ h =>
    obtain ⟨hadm, -, hports, hman, hfwd⟩ := placeImage_rest (s := s) (choosePage s.store.pages)
    exact h.withinPlaces (recordsValid_placeImage hv) (keysSound_of_adm hadm hk)
      (withinPlaces_of_rest hadm hports hman hfwd hs)
  | reset straps asWritten => exact withinPlaces_restarted straps asWritten

/-- Settles O8: each move has looked for a place before it takes one. -/
theorem placesStayEnough : Obligations.PlacesStayEnough := by
  intro s t hv hq hs hstep
  obtain ⟨hk, -⟩ := queueOrdered_iff.1 hq
  rcases step_outcome hstep with h | ⟨rest, h⟩
  · exact h.changes.withinPlaces (recordsValid_of_tablesValid hv) hk hs
  · exact h.withinPlaces hv hk hs

/-! ## The power frames, case by case -/

section PowerFrames

variable {i : Slot} {g : Byte} {c : Contract} {gr : Grant} {sh : Shed}

theorem isOffered_eq_not_granted (c : Contract) : c.isOffered = !c.granted := rfl

theorem takeAccept_none (h : s.contract? i g = none) : takeAccept i g s = s.refuse i g .stale := by
  simp [takeAccept, h]

theorem takeAccept_offered (h : s.contract? i g = some c) (ho : c.isOffered = true) : takeAccept i g s =
    ((s.onContract i g fun c => { c with state := .held ⟨s.leaseExpiry i, 0, s.reportDeadline i⟩ }).evalEnable i).reply i
      (.granted g c.amount) := by
  simp [takeAccept, h, ho]

theorem takeAccept_granted (h : s.contract? i g = some c) (ho : c.isOffered = false) :
    takeAccept i g s = s.refuse i g .wrongState := by
  simp [takeAccept, h, ho]

theorem takeDecline_none (h : s.contract? i g = none) : takeDecline i g s = s.refuse i g .stale := by
  simp [takeDecline, h]

theorem takeDecline_offered (h : s.contract? i g = some c) (ho : c.isOffered = true) :
    takeDecline i g s = runPass ((s.closeContract i g).reply i (.closed g .declined)) := by
  simp [takeDecline, h, ho]

theorem takeDecline_granted (h : s.contract? i g = some c) (ho : c.isOffered = false) :
    takeDecline i g s = s.refuse i g .wrongState := by
  simp [takeDecline, h, ho]

theorem takeRelease_contract (h : s.contract? i g = some c) :
    takeRelease i g s = afterClose c.isShedding ((s.closeContract i g).reply i (.closed g .released)) := by
  simp [takeRelease, h]

theorem takeRelease_claim {e : QueueEntry} (h : s.contract? i g = none) (he : s.claim? i g = some e) :
    takeRelease i g s = runPass ((s.leaveQueue i g).reply i (.closed g .released)) := by
  simp [takeRelease, h, he]

theorem takeRelease_none (h : s.contract? i g = none) (he : s.claim? i g = none) :
    takeRelease i g s = s.refuse i g .unknownTag := by
  simp [takeRelease, h, he]

theorem takeAdjust_none (asked : Nat) (h : s.contract? i g = none) :
    takeAdjust i g asked s = s.refuse i g .unknownTag := by
  simp [takeAdjust, h]

theorem takeAdjust_offered {d : Time} (asked : Nat) (h : s.contract? i g = some c) (hst : c.state = .offered d) :
    takeAdjust i g asked s = s.refuse i g .wrongState := by
  simp [takeAdjust, h, hst]

theorem takeAdjust_zero {asked : Nat} (h : s.contract? i g = some c) (hst : ∀ d, c.state ≠ .offered d)
    (hz : roundUp (s.policy i).step asked = 0) : takeAdjust i g asked s = s.refuse i g .malformed := by
  cases hc : c.state with
  | offered d => exact absurd hc (hst d)
  | held => simp [takeAdjust, h, hc, hz]
  | shedding => simp [takeAdjust, h, hc, hz]

theorem takeAdjust_held {asked : Nat} (h : s.contract? i g = some c) (hst : c.state = .held gr)
    (hz : roundUp (s.policy i).step asked ≠ 0) :
    takeAdjust i g asked s = adjustHeld i g c (roundUp (s.policy i).step asked) s := by
  simp [takeAdjust, h, hst, hz]

theorem takeAdjust_complies {asked : Nat} (h : s.contract? i g = some c) (hst : c.state = .shedding gr sh)
    (hz : roundUp (s.policy i).step asked ≠ 0) (hle : roundUp (s.policy i).step asked ≤ sh.target) :
    takeAdjust i g asked s = afterComply ((s.comply i g c (roundUp (s.policy i).step asked)).reply i
      (.granted g (roundUp (s.policy i).step asked))) := by
  simp [takeAdjust, h, hst, hz, hle]

theorem takeAdjust_above {asked : Nat} (h : s.contract? i g = some c) (hst : c.state = .shedding gr sh)
    (hlt : sh.target < roundUp (s.policy i).step asked) : takeAdjust i g asked s = s.refuse i g .wrongState := by
  have hz : roundUp (s.policy i).step asked ≠ 0 := by omega
  simp [takeAdjust, h, hst, hz, Nat.not_le.2 hlt]

theorem takeRenew_none (h : s.contract? i g = none) : takeRenew i g s = s.refuse i g .unknownTag := by
  simp [takeRenew, h]

theorem takeRenew_granted (h : s.contract? i g = some c) (hg : c.granted = true) : takeRenew i g s =
    (s.onContract i g (Contract.onGrant fun gr => { gr with leaseExpiry := s.leaseExpiry i })).reply i
      (.granted g c.amount) := by
  simp [takeRenew, h, hg]

theorem takeRenew_offered (h : s.contract? i g = some c) (hg : c.granted = false) :
    takeRenew i g s = s.refuse i g .wrongState := by
  simp [takeRenew, h, hg]

theorem takeReport_none (measured : Nat) (h : s.contract? i g = none) : takeReport i g measured s = s.stray i := by
  simp [takeReport, h]

theorem takeReport_offered {d : Time} (measured : Nat) (h : s.contract? i g = some c) (hst : c.state = .offered d) :
    takeReport i g measured s = s.stray i := by
  simp [takeReport, h, hst]

theorem takeReport_complies {measured : Nat} (h : s.contract? i g = some c) (hst : c.state = .shedding gr sh)
    (hle : measured ≤ sh.target) :
    takeReport i g measured s = judgeReport i g measured (afterComply (s.comply i g c sh.target)) := by
  simp [takeReport, h, hst, hle]

theorem takeComply_none (h : s.contract? i g = none) : takeComply i g s = s.refuse i g .unknownTag := by
  simp [takeComply, h]

theorem takeComply_shedding (h : s.contract? i g = some c) (hst : c.state = .shedding gr sh) :
    takeComply i g s = afterComply ((s.comply i g c sh.target).reply i (.granted g sh.target)) := by
  simp [takeComply, h, hst]

theorem takeComply_wrong (h : s.contract? i g = some c) (hst : c.isShedding = false) :
    takeComply i g s = s.refuse i g .wrongState := by
  cases hc : c.state with
  | shedding => simp [Contract.isShedding, hc] at hst
  | offered => simp [takeComply, h, hc]
  | held => simp [takeComply, h, hc]

theorem afterClose_true : afterClose true s = budgetRound .normal (runPass s) := rfl
theorem afterClose_false : afterClose false s = runPass s := rfl
theorem afterComply_eq : afterComply s = budgetRound .normal (runPass s) := rfl

/-! ## A power frame that is handed on -/

theorem exec_claim {want least : Half} (h : s.hands i) :
    exec (.claim i g want least) s = .next (takeClaim i g want.toNat least.toNat (s.onHearing i)) :=
  congrArg _ (moduleFrame_of_hands h)

theorem exec_accept (h : s.hands i) : exec (.accept i g) s = .next (takeAccept i g (s.onHearing i)) :=
  congrArg _ (moduleFrame_of_hands h)

theorem exec_decline (h : s.hands i) : exec (.decline i g) s = .next (takeDecline i g (s.onHearing i)) :=
  congrArg _ (moduleFrame_of_hands h)

theorem exec_release (h : s.hands i) : exec (.release i g) s = .next (takeRelease i g (s.onHearing i)) :=
  congrArg _ (moduleFrame_of_hands h)

theorem exec_adjust {x : Half} (h : s.hands i) :
    exec (.adjust i g x) s = .next (takeAdjust i g x.toNat (s.onHearing i)) :=
  congrArg _ (moduleFrame_of_hands h)

theorem exec_renew (h : s.hands i) : exec (.renew i g) s = .next (takeRenew i g (s.onHearing i)) :=
  congrArg _ (moduleFrame_of_hands h)

theorem exec_report {x : Half} (h : s.hands i) :
    exec (.report i g x) s = .next (takeReport i g x.toNat (s.onHearing i)) :=
  congrArg _ (moduleFrame_of_hands h)

theorem exec_comply (h : s.hands i) : exec (.comply i g) s = .next (takeComply i g (s.onHearing i)) :=
  congrArg _ (moduleFrame_of_hands h)

theorem contract?_onHearing (h : s.contract? i g = some c) : (s.onHearing i).contract? i g = some c := h
theorem contract?_onHearing_none (h : s.contract? i g = none) : (s.onHearing i).contract? i g = none := h
theorem claim?_onHearing_none (h : s.claim? i g = none) : (s.onHearing i).claim? i g = none := h

end PowerFrames

/-! ## Claims -/

/-- Settles O15, through the checks passed and the room found. -/
theorem claimThatFitsIsOffered : Obligations.ClaimThatFitsIsOffered := by
  intro s i g want least p amount ha hp hf
  rw [exec_claim (hands_of_present ha hp.1)]
  unfold takeClaim
  rw [claimRefusal_of_claimPasses hp]
  exact congrArg _ (if_pos (offersNow_iff.2 hf))

theorem takeClaim_refused {i : Slot} {g : Byte} {want least : Nat} {reason : RefuseReason}
    (h : s.claimRefusal i g want least = some reason) : takeClaim i g want least s = s.refuse i g reason := by
  simp [takeClaim, h]

/-- The checks on a heard claim are those on the claim: hearing changes no declared value and no state of the slot. -/
theorem claimRefusal_onHearing (i : Slot) (g : Byte) (want least : Nat) :
    (s.onHearing i).claimRefusal i g want least = s.claimRefusal i g want least := by
  simp only [State.claimRefusal, port_onHearing, heard_state, heard_declared]
  rfl

theorem hands_of_state {i : Slot} (ha : s.active = true) {x : SlotState} (hx : (s.port i).state = x)
    (hd : x ≠ .disabled) (hv : x ≠ .vacant) : s.hands i := ⟨ha, hx ▸ hd, hx ▸ hv⟩

theorem exec_claim_refused {i : Slot} {g : Byte} {want least : Half} {reason : RefuseReason} (h : s.hands i)
    (hr : s.claimRefusal i g want.toNat least.toNat = some reason) :
    exec (.claim i g want least) s = .next (s.answered i (.refuse g reason)) := by
  rw [exec_claim h, takeClaim_refused ((claimRefusal_onHearing i g _ _).trans hr), onHearing_refuse]

theorem exceedsDeclared_iff {d : Option Declared} {want : Nat} :
    (d.any fun d => decide (d.peak ≠ 0 ∧ d.peak < want)) = true ↔ ∃ x ∈ d, x.peak ≠ 0 ∧ x.peak < want := by
  cases d <;> simp

/-- Settles O18: each check is one branch of the controller's own chain. -/
theorem claimRefusalsInOrder : Obligations.ClaimRefusalsInOrder := by
  intro s i g want least ha refused
  have settle : ∀ {x : SlotState} {reason : RefuseReason}, (s.port i).state = x → x ≠ .disabled → x ≠ .vacant →
      s.claimRefusal i g want.toNat least.toNat = some reason → refused reason := fun hx hd hv hr =>
    exec_claim_refused (hands_of_state ha hx hd hv) hr
  refine ⟨fun hx => ?_, fun hx => ?_, fun hx => ?_, fun hx => ?_⟩
  · exact settle hx (by simp) (by simp) (by simp [State.claimRefusal, hx])
  · exact settle hx (by simp) (by simp) (by simp [State.claimRefusal, hx])
  · exact settle hx (by simp) (by simp) (by simp [State.claimRefusal, hx])
  · have hsettle : ∀ {reason : RefuseReason}, s.claimRefusal i g want.toNat least.toNat = some reason → refused reason :=
      settle hx (by simp) (by simp)
    have hchain := claimRefusal_present (g := g) (want := want.toNat) (least := least.toNat) hx
    split
    · next hform => exact hsettle (hchain.trans (if_pos hform))
    next hform =>
    rw [if_neg hform] at hchain
    split
    · next htag => exact hsettle (hchain.trans (if_pos htag))
    next htag =>
    rw [if_neg htag] at hchain
    split
    · next hheld => exact hsettle (hchain.trans (if_pos hheld))
    next hheld =>
    rw [if_neg hheld] at hchain
    split
    · next hpeak => exact hsettle (hchain.trans (if_pos (exceedsDeclared_iff.2 hpeak)))
    next hpeak =>
    rw [if_neg (mt exceedsDeclared_iff.1 hpeak)] at hchain
    exact fun hceil => hsettle (hchain.trans (if_pos hceil))

/-! ## Answers of contracts -/

theorem reply_onContract (i : Slot) (g : Byte) (f : Contract → Contract) (r : Reply) :
    (s.onContract i g f).reply i r = (s.reply i r).onContract i g f := rfl

theorem evalEnable_eq (i : Slot) : s.evalEnable i = s.setPort i { s.port i with enable := s.enableValue i } := rfl

/-- The enable output of a slot whose contract has just been granted (R103). -/
theorem enableValue_of_granted {i : Slot} {d : Contract} (hd : d ∈ s.adm.contracts) (hs : d.slot = i)
    (hg : d.granted = true) : s.enableValue i = decide ((s.port i).state = .present) := by
  have hany : (s.contractsOf i).any Contract.granted = true :=
    List.any_eq_true.2 ⟨d, List.mem_filter.2 ⟨hd, by simp [hs]⟩, hg⟩
  rw [State.enableValue, hany, Bool.and_true, beq_eq_decide]

/-- Settles O19. -/
theorem acceptAndRenewAnswerGranted : Obligations.AcceptAndRenewAnswerGranted := by
  intro s i g c p lease report h hc
  split
  · next hg =>
    rw [exec_renew h, takeRenew_granted (contract?_onHearing hc) hg, reply_onContract, onHearing_reply]
    rfl
  · next hg =>
    have ho : c.isOffered = true := by simpa [isOffered_eq_not_granted] using hg
    rw [exec_accept h, takeAccept_offered (contract?_onHearing hc) ho]
    have hheld : ∀ gr : Grant, ((s.onHearing i).onContract i g fun c => { c with state := .held gr }).enableValue i =
        decide ((s.port i).state = .present) := by
      intro gr
      have hv := enableValue_of_granted (s := (s.onHearing i).onContract i g fun c => { c with state := .held gr })
        (i := i) (mem_modifyFirst_find (contract?_onHearing hc)) (isOf_of_contract? hc).1 rfl
      rw [hv, ← heard_state (s := s) i, ← port_onHearing]
      rfl
    rw [evalEnable_eq, hheld, reply_eq, port_setPort_self, setPort_setPort]
    have hport : ∀ f, ((s.onHearing i).onContract i g f).port i = s.heard i := fun f => port_onHearing i
    rw [hport]
    have hcomm : ∀ f q, ((s.onHearing i).onContract i g f).setPort i q =
        (((s.setPort i (s.heard i)).setPort i q).onContract i g f) := fun f q => rfl
    rw [hcomm, setPort_setPort]
    rfl

/-- A stray frame is counted where the frame was heard (R21, R110). -/
theorem stray_onHearing (i : Slot) : (s.onHearing i).stray i =
    s.setPort i { s.heard i with strayFrames := countUp (s.heard i).strayFrames } := by
  unfold State.stray State.onPort
  rw [port_onHearing, State.onHearing, setPort_setPort]

/-- Settles O20: each frame by the contract its tag names. -/
theorem framesOutOfStateAreRefused : Obligations.FramesOutOfStateAreRefused := by
  intro s i g x h refused amount stray
  have answer : ∀ {c : Instr} {f : State → State} {reason : RefuseReason}, exec c s = .next (f (s.onHearing i)) →
      f (s.onHearing i) = (s.onHearing i).refuse i g reason → refused c reason := fun hx hf =>
    hx.trans (congrArg _ (hf.trans (onHearing_refuse i g _)))
  have count : takeReport i g x.toNat (s.onHearing i) = (s.onHearing i).stray i → exec (.report i g x) s = .next stray :=
    fun hf => (exec_report h).trans (congrArg _ (hf.trans (stray_onHearing i)))
  split
  · next hc =>
    have hc' := contract?_onHearing_none hc
    exact ⟨answer (exec_accept h) (takeAccept_none hc'), answer (exec_decline h) (takeDecline_none hc'),
      answer (exec_adjust h) (takeAdjust_none _ hc'), answer (exec_renew h) (takeRenew_none hc'),
      answer (exec_comply h) (takeComply_none hc'),
      fun he => answer (exec_release h) (takeRelease_none hc' (claim?_onHearing_none he)),
      count (takeReport_none _ hc')⟩
  · next c hc =>
    have hc' := contract?_onHearing hc
    split
    · next d hst =>
      exact ⟨answer (exec_adjust h) (takeAdjust_offered _ hc' hst),
        answer (exec_renew h) (takeRenew_offered hc' (by simp [Contract.granted, hst])),
        answer (exec_comply h) (takeComply_wrong hc' (by simp [Contract.isShedding, hst])),
        count (takeReport_offered _ hc' hst)⟩
    · next gr hst =>
      have ho : c.isOffered = false := by simp [Contract.isOffered, Contract.granted, hst]
      exact ⟨answer (exec_accept h) (takeAccept_granted hc' ho), answer (exec_decline h) (takeDecline_granted hc' ho),
        answer (exec_comply h) (takeComply_wrong hc' (by simp [Contract.isShedding, hst])),
        fun hz => answer (exec_adjust h) (takeAdjust_zero hc' (by simp [hst]) hz)⟩
    · next gr sh hst =>
      have ho : c.isOffered = false := by simp [Contract.isOffered, Contract.granted, hst]
      exact ⟨answer (exec_accept h) (takeAccept_granted hc' ho), answer (exec_decline h) (takeDecline_granted hc' ho),
        fun hz => answer (exec_adjust h) (takeAdjust_zero hc' (by simp [hst]) hz),
        fun hlt => answer (exec_adjust h) (takeAdjust_above hc' hst hlt)⟩

/-! ## Closing -/

/-- Settles O21: the removal and the enable output it leaves, then the flags. -/
theorem removalOfAContract : Obligations.RemovalOfAContract := by
  intro s i g c hc rest
  have hvalue : (s.dropped i g c).enableValue i =
      (decide ((s.port i).state = .present) && rest.any fun d => d.slot == i && d.granted) := by
    unfold State.enableValue State.contractsOf
    rw [List.any_filter]
    rw [beq_eq_decide]
    rfl
  have hremove : s.removeContract i g = (s.dropped i g c).evalEnable i := by
    simp only [State.removeContract, hc]
    rfl
  rw [State.closeContract, hremove, evalEnable_eq, hvalue]
  rfl

/-- Settles O22. -/
theorem declineAndReleaseClose : Obligations.DeclineAndReleaseClose := by
  intro s i g h
  split
  · next c _ hc =>
    have hc' := contract?_onHearing hc
    intro closed
    refine ⟨fun ho => ?_, fun hsh => ?_, fun hsh => ?_⟩
    · rw [exec_decline h, takeDecline_offered hc' ho]
    · rw [exec_release h, takeRelease_contract hc', hsh, afterClose_false]
    · rw [exec_release h, takeRelease_contract hc', hsh, afterClose_true]
  · next e hc he =>
    have hcomm : ((s.onHearing i).leaveQueue i g).reply i (.closed g .released) =
        ((s.onHearing i).reply i (.closed g .released)).leaveQueue i g := rfl
    rw [exec_release h, takeRelease_claim (contract?_onHearing_none hc) he, hcomm, onHearing_reply]
    rfl
  · trivial

/-! ## ADJUST and compliance -/

section Adjust

variable {i : Slot} {g : Byte} {c : Contract} {amount : Nat}

theorem adjustHeld_ceiling (h : c.amount + s.ceilingRoom i < amount) :
    adjustHeld i g c amount s = s.refuse i g .ceiling := if_pos h

theorem adjustHeld_same (h : ¬ c.amount + s.ceilingRoom i < amount) (he : amount = c.amount) :
    adjustHeld i g c amount s = s.reply i (.granted g amount) := by
  unfold adjustHeld
  rw [if_neg h, if_pos he]

theorem adjustHeld_lower (h : ¬ c.amount + s.ceilingRoom i < amount) (hlt : amount < c.amount) :
    adjustHeld i g c amount s = runPass ((evalFlags
      { s.onContract i g (Contract.withAmount amount) with
        adm.committed := s.adm.committed - (c.amount - amount) }).reply i (.granted g amount)) := by
  unfold adjustHeld
  rw [if_neg h, if_neg (by omega), if_pos hlt]

theorem adjustHeld_raise (h : ¬ c.amount + s.ceilingRoom i < amount) (hgt : c.amount < amount)
    (hroom : ¬ (s.bud.overcommit = true ∨ s.barred i = true ∨ s.room < amount - c.amount)) :
    adjustHeld i g c amount s = (evalFlags
      { s.onContract i g (Contract.withAmount amount) with
        adm.committed := s.adm.committed + (amount - c.amount) }).reply i (.granted g amount) := by
  unfold adjustHeld
  rw [if_neg h, if_neg (by omega), if_neg (by omega), if_neg hroom]

theorem adjustHeld_noRoom (h : ¬ c.amount + s.ceilingRoom i < amount) (hgt : c.amount < amount)
    (hroom : s.bud.overcommit = true ∨ s.barred i = true ∨ s.room < amount - c.amount) :
    adjustHeld i g c amount s = s.refuse i g .noRoom := by
  unfold adjustHeld
  rw [if_neg h, if_neg (by omega), if_neg (by omega), if_pos hroom]

/-- R16: what lets a HELD contract be raised. -/
theorem mayRaise_iff {more : Nat} : ¬ (s.bud.overcommit = true ∨ s.barred i = true ∨ s.room < more) ↔
    s.bud.overcommit = false ∧ (∀ e ∈ s.adm.queue, s.entryClass e < (s.policy i).cls.code) ∧ more ≤ s.room := by
  rw [not_or, not_or, barred_iff, not_not, Bool.not_eq_true, Nat.not_lt]

end Adjust

/-- Settles O23, through the equation of each range of the rounded amount. -/
theorem heldContractIsAdjusted : Obligations.HeldContractIsAdjusted := by
  intro s i g x c gr amount moved h hc hst hz
  have hadjust : exec (.adjust i g x) s = .next (adjustHeld i g c amount (s.onHearing i)) := by
    rw [exec_adjust h, takeAdjust_held (contract?_onHearing hc) hst hz]
    rfl
  rw [hadjust]
  split
  · next hceil => rw [adjustHeld_ceiling (s := s.onHearing i) hceil, onHearing_refuse]
  next hceil =>
  split
  · next he => rw [adjustHeld_same (s := s.onHearing i) hceil he, onHearing_reply]
  next he =>
  split
  · next hlt =>
    rw [adjustHeld_lower (s := s.onHearing i) hceil hlt]
    rfl
  next hlt =>
  have hgt : c.amount < amount := by omega
  split
  · next hmay =>
    rw [adjustHeld_raise (s := s.onHearing i) hceil hgt (mayRaise_iff.2 hmay)]
    rfl
  · next hmay =>
    rw [adjustHeld_noRoom (s := s.onHearing i) hceil hgt (not_not.1 (mt mayRaise_iff.1 hmay)), onHearing_refuse]

/-- A SHEDDING contract's compliance, with its own grant and relief written out (R67). -/
theorem comply_eq {i : Slot} {g : Byte} {c : Contract} {gr : Grant} {sh : Shed} (amount : Nat)
    (hc : s.contract? i g = some c) (hst : c.state = .shedding gr sh) : s.comply i g c amount =
      { evalFlags
          { s with
            adm.contracts := modifyFirst (Contract.isOf i g)
              (fun c => { c with amount := amount, state := .held gr }) s.adm.contracts
            adm.committed := s.adm.committed - (c.amount - amount) } with
        eng.pledged := s.eng.pledged - (c.amount - sh.target) } := by
  have hcontracts : modifyFirst (Contract.isOf i g) (Contract.complied amount) s.adm.contracts =
      modifyFirst (Contract.isOf i g) (fun c => { c with amount := amount, state := .held gr }) s.adm.contracts := by
    refine modifyFirst_congr fun d hd => ?_
    obtain rfl : c = d := Option.some.inj (hc.symm.trans hd)
    simp [Contract.complied, hst]
  have hrelief : c.relief = c.amount - sh.target := by simp [Contract.relief, hst]
  unfold State.comply State.onContract
  rw [hcontracts, hrelief]

/-- Settles O24: the three frames lead to one compliance. -/
theorem complianceByThreeFrames : Obligations.ComplianceByThreeFrames := by
  intro s i g x c gr sh adjusted complied followed h hc hst
  have hc' := contract?_onHearing hc
  have hcomply : ∀ amount, (s.onHearing i).comply i g c amount = complied amount := fun amount =>
    comply_eq (s := s.onHearing i) amount hc' hst
  refine ⟨?_, fun hz hle => ?_, fun hle => ?_⟩
  · rw [exec_comply h, takeComply_shedding hc' hst, hcomply, afterComply_eq]
  · rw [exec_adjust h, takeAdjust_complies (s := s.onHearing i) hc' hst hz hle, afterComply_eq, ← hcomply]
    rfl
  · rw [exec_report h, takeReport_complies hc' hst hle, hcomply, afterComply_eq]

/-! ## Expiries -/

theorem expireContract_of_deadline {i : Slot} {g : Byte} {deadline? : Contract → Option Time}
    {act : Contract → State → State} {c : Contract} {d : Time} (ha : s.active = true) (hc : s.contract? i g = some c)
    (hd : deadline? c = some d) : expireContract i g deadline? act s = act c (s.reach d) := by
  simp [expireContract, hc, hd, ha]

theorem expireWait_of_deadline {i : Slot} {g : Byte} {e : QueueEntry} {d : Time} (ha : s.active = true)
    (he : s.claim? i g = some e) (hd : e.waitDeadline = some d) : expireWait i g s =
      runPass ((((s.reach d).leaveQueue i g).refuse i g .waitLimit).raise .queueTimeout (some (.slot i)) g.toNat) := by
  simp [expireWait, he, hd, ha]

/-- Settles O26. -/
theorem expiriesEndContractsAndClaims : Obligations.ExpiriesEndContractsAndClaims := by
  intro s i g d ha u
  refine ⟨fun c hc hst => ?_, fun c hc hd => ?_, fun e he hd => ?_⟩
  · have hd : c.offerDeadline? = some d := by simp [Contract.offerDeadline?, hst]
    exact congrArg _ (expireContract_of_deadline ha hc hd)
  · have hexec : exec (.leaseExpiry i g) s = .next (closeExpired i g c u) :=
      congrArg _ (expireContract_of_deadline ha hc hd)
    rw [hexec]
    rfl
  · have hexec : exec (.waitDeadline i g) s = .next (runPass
        (((u.leaveQueue i g).refuse i g .waitLimit).raise .queueTimeout (some (.slot i)) g.toNat)) :=
      congrArg _ (expireWait_of_deadline ha he hd)
    rw [hexec]
    rfl

/-! ## Frames and expiries that find nothing -/

section Nothing

variable {i : Slot} {g : Byte} {link : Link}

theorem receives_slot_eq_false (h : s.active = false ∨ (s.port i).state = .disabled) :
    s.receives (.slot i) = false := by
  rcases h with h | h <;> simp [State.receives, h]

theorem receives_eq_false (h : s.active = false) : s.receives link = false := by
  cases link <;> simp [State.receives, h]

theorem moduleFrame_of_vacant {f : State → State} (ha : s.active = true) (hv : (s.port i).state = .vacant) :
    moduleFrame i f s = s.setPort i { s.port i with receiver := huntingReceiver } := by
  have hr : s.receives (.slot i) = true := by simp [State.receives, ha, hv]
  have hp : ((s.hunt (.slot i)).port i).state = .vacant := by simp [State.hunt, State.setReceiver, hv]
  unfold moduleFrame
  simp only [hr, if_true, hp]
  rfl

/-- A power frame is handled by its slot's port (R6). -/
theorem exec_power {c : Instr} (h : powerSlot? c = some i) :
    ∃ f : State → State, ∀ s : State, exec c s = .next (moduleFrame i f s) := by
  cases c with
  | claim | accept | decline | release | adjust | renew | report | comply =>
    obtain rfl := Option.some.inj h
    exact ⟨_, fun _ => rfl⟩
  | _ => simp [powerSlot?] at h

theorem takePresent_of_not_receives {d : Declared} (h : s.receives (.slot i) = false) : takePresent i d s = s := by
  simp [takePresent, h]

theorem malformedFrame_of_not_receives (h : s.receives link = false) : malformedFrame link s = s := by
  simp [malformedFrame, h]

theorem abandonFrame_of_not_receives (h : s.receives link = false) : abandonFrame link s = s := by
  simp [abandonFrame, h]

theorem abandonFrame_of_no_gap (h : (s.receiver link).gapDeadline = none) : abandonFrame link s = s := by
  simp [abandonFrame, h]

theorem receiveAll_of_not_receives (h : s.receives link = false) (bytes : List Byte) :
    bytes.foldl (receiveOn link) s = s := by
  induction bytes with
  | nil => rfl
  | cons b r ih => rw [List.foldl_cons, receiveOn_of_not_receives b h, ih]

theorem exec_data_of_not_receives {q : Byte} {payload : List Byte} (h : s.receives (.slot i) = false) :
    exec (.data i q payload) s = .next s := by
  show Host.Outcome.next (if _ then _ else _) = _
  rw [moduleFrame_of_not_receives h, malformedFrame_of_not_receives h, ite_self]

theorem exec_dataDown_of_inactive {q slot : Byte} {payload : List Byte} (h : s.active = false) :
    exec (.dataDown q slot payload) s = .next s := by
  show Host.Outcome.next (if _ then _ else _) = _
  rw [supplyFrame_of_inactive h, malformedFrame_of_not_receives (receives_eq_false h), ite_self]

theorem expireContract_of_inactive {deadline? : Contract → Option Time} {act : Contract → State → State}
    (h : s.active = false) : expireContract i g deadline? act s = s := by
  unfold expireContract
  split
  · rfl
  · split
    · rfl
    · exact if_neg (by simp [h])

theorem expireContract_of_no_deadline {deadline? : Contract → Option Time} {act : Contract → State → State}
    (h : ∀ c, s.contract? i g = some c → deadline? c = none) : expireContract i g deadline? act s = s := by
  unfold expireContract
  split
  · rfl
  · next c hc => rw [h c hc]

theorem expireWait_of_inactive (h : s.active = false) : expireWait i g s = s := by
  unfold expireWait
  split
  · rfl
  · split
    · rfl
    · exact if_neg (by simp [h])

theorem expireWait_of_no_deadline (h : ∀ e ∈ s.claim? i g, e.waitDeadline = none) : expireWait i g s = s := by
  unfold expireWait
  split
  · rfl
  · next e he => rw [h e he]

theorem expireStale_of_inactive (h : s.active = false) : expireStale s = s := by
  unfold expireStale
  split <;> simp [h]

theorem endPenalty_of_nothing (h : s.active = false ∨ (s.port i).penaltyEnd = none ∨ (s.port i).state ≠ .penalty) :
    endPenalty i s = s := by
  unfold endPenalty
  split
  · rfl
  · next d hd => exact if_neg (by rintro ⟨ha, hp⟩; simp_all)

theorem expireProbe_of_nothing (h : s.active = false ∨ (s.port i).probeDeadline = none) : expireProbe i s = s := by
  unfold expireProbe
  split
  · rfl
  · next d hd => exact if_neg (by simp_all)

theorem expireAnswer_of_nothing (h : s.active = false ∨ (s.port i).answerDeadline = none) : expireAnswer i s = s := by
  unfold expireAnswer
  split
  · rfl
  · next d hd => exact if_neg (by simp_all)

theorem deadline?_eq_some {n : Notice} {d : Time} (h : n.deadline? = some d) :
    ∃ sends, n.state = .sent sends (.awaiting d) := by
  unfold Notice.deadline? at h
  split at h
  · next sends _ hst => exact ⟨sends, by rw [hst, Option.some.inj h]⟩
  · simp at h

theorem expireRetransmit_of_inactive (h : s.active = false) : expireRetransmit s = s := by
  unfold expireRetransmit
  split
  · rfl
  · split
    · rfl
    · exact if_neg (by simp [h])

theorem expireRetransmit_of_no_deadline
    (h : ∀ n ∈ s.ntc.queue, ∀ sends d, n.state ≠ .sent sends (.awaiting d)) : expireRetransmit s = s := by
  unfold expireRetransmit
  split
  · rfl
  · next n hn =>
    split
    · rfl
    · next d hd =>
      obtain ⟨sends, hst⟩ := deadline?_eq_some hd
      exact absurd hst (h n (List.mem_of_find?_eq_some hn) sends d)

theorem completeErase_of_no_erase (h : ∀ p, s.store.op ≠ some (.erase p)) : completeErase s = s := by
  unfold completeErase
  split
  · next p hp => exact absurd hp (h p)
  all_goals rfl

theorem completeSave_of_no_save {asWritten : Bool} (h : ∀ p img, s.store.op ≠ some (.save p img)) :
    completeSave asWritten s = s := by
  unfold completeSave
  split
  · next p img hp => exact absurd hp (h p img)
  all_goals rfl

theorem completeLoad_of_no_load (h : ∀ p, s.store.op ≠ some (.load p)) : completeLoad s = s := by
  unfold completeLoad
  split
  · next p hp => exact absurd hp (h p)
  all_goals rfl

theorem onPort_eq_self {f : SlotPort → SlotPort} (h : f (s.port i) = s.port i) : s.onPort i f = s := by
  unfold State.onPort State.setPort
  rw [h, State.port, set_get_self]

theorem endSlot_of_idle (h : (s.port i).transmission = none) :
    (s.onPort i fun p => { p with transmission := none }) = s :=
  onPort_eq_self (by rw [← h])

theorem endUpstream_of_idle (h : s.supply.transmission = none) : endUpstream s = s := by
  simp [endUpstream, h]

end Nothing

/-- Settles O29: frame by frame, expiry by expiry and completion by completion. -/
theorem nothingToActOn : Obligations.NothingToActOn := by
  intro s i g q slot cls link amount urgency payload bytes asWritten still hunting
  have stays : ∀ {c : Instr} {v : State}, exec c s = .next v → v = s → still c := fun hx hv => hx.trans (congrArg _ hv)
  refine ⟨fun c hc => ?_, fun h => ?_, fun ha hv hl => ?_, fun h => ?_, ?_, fun h => ?_, fun h => ?_, fun h => ?_,
    fun h => ?_, fun h => ?_, fun h => ?_, fun h => ?_, fun h => ?_, fun h => ?_, fun h => ?_, fun h => ?_, fun h => ?_,
    fun h => ?_, fun h => ?_⟩
  · obtain ⟨f, hf⟩ := exec_power hc
    exact ⟨fun h => stays (hf s) (moduleFrame_of_not_receives (receives_slot_eq_false h)),
      fun ha hv => (hf s).trans (congrArg _ (moduleFrame_of_vacant ha hv))⟩
  · have hr := receives_slot_eq_false h
    exact ⟨stays rfl (takePresent_of_not_receives hr), exec_data_of_not_receives hr,
      stays rfl (receiveAll_of_not_receives hr bytes), stays rfl (abandonFrame_of_not_receives hr)⟩
  · exact congrArg _ ((if_pos hl).trans (moduleFrame_of_vacant ha hv))
  · have hr : s.receives link = false := receives_eq_false h
    exact ⟨stays rfl (supplyFrame_of_inactive h), stays rfl (supplyFrame_of_inactive h), exec_dataDown_of_inactive h,
      stays rfl (receiveAll_of_not_receives hr bytes), stays rfl (expireContract_of_inactive h),
      stays rfl (expireContract_of_inactive h), stays rfl (expireWait_of_inactive h),
      stays rfl (expireStale_of_inactive h), stays rfl (expireContract_of_inactive h),
      stays rfl (expireContract_of_inactive h), stays rfl (endPenalty_of_nothing (.inl h)),
      stays rfl (expireProbe_of_nothing (.inl h)), stays rfl (expireAnswer_of_nothing (.inl h)),
      stays rfl (expireRetransmit_of_inactive h), stays rfl (abandonFrame_of_not_receives hr),
      stays rfl (if_neg (by simp [h]))⟩
  · have none_of : ∀ {deadline? : Contract → Option Time}, (∀ c, s.contract? i g = some c → deadline? c = none) →
        ∀ {act : Contract → State → State}, expireContract i g deadline? act s = s := fun h => expireContract_of_no_deadline h
    split
    · next hc =>
      have hn : ∀ {deadline? : Contract → Option Time} (c : Contract), s.contract? i g = some c → deadline? c = none := by
        simp [hc]
      exact ⟨stays rfl (none_of hn), stays rfl (none_of hn), stays rfl (none_of hn), stays rfl (none_of hn)⟩
    · next c hc =>
      have hn : ∀ {deadline? : Contract → Option Time}, deadline? c = none →
          ∀ d, s.contract? i g = some d → deadline? d = none := by
        rintro _ h d hd
        obtain rfl : c = d := Option.some.inj (hc.symm.trans hd)
        exact h
      split
      · next d hst =>
        exact ⟨stays rfl (none_of (hn (by simp [Contract.leaseExpiry?, hst]))),
          stays rfl (none_of (hn (by simp [Contract.shedDeadline?, hst]))),
          stays rfl (none_of (hn (by simp [Contract.reportDeadline?, hst])))⟩
      · next gr hst =>
        exact ⟨stays rfl (none_of (hn (by simp [Contract.offerDeadline?, hst]))),
          stays rfl (none_of (hn (by simp [Contract.shedDeadline?, hst]))),
          fun h => stays rfl (none_of (hn (by simp [Contract.leaseExpiry?, hst, h]))),
          fun h => stays rfl (none_of (hn (by simp [Contract.reportDeadline?, hst, h])))⟩
      · next gr sh hst =>
        exact ⟨stays rfl (none_of (hn (by simp [Contract.offerDeadline?, hst]))),
          fun h => stays rfl (none_of (hn (by simp [Contract.leaseExpiry?, hst, h]))),
          fun h => stays rfl (none_of (hn (by simp [Contract.reportDeadline?, hst, h])))⟩
  · exact stays rfl (expireWait_of_no_deadline h)
  · exact stays rfl (by simp [expireStale, h])
  · exact stays rfl (endPenalty_of_nothing (.inr h))
  · exact stays rfl (expireProbe_of_nothing (.inr h))
  · exact stays rfl (expireAnswer_of_nothing (.inr h))
  · exact stays rfl (expireRetransmit_of_no_deadline h)
  · exact stays rfl (abandonFrame_of_no_gap h)
  · exact stays rfl (completeErase_of_no_erase h)
  · exact stays rfl (completeSave_of_no_save h)
  · exact stays rfl (completeLoad_of_no_load h)
  · exact stays rfl (endSlot_of_idle h)
  · exact stays rfl (endUpstream_of_idle h)
  · exact stays rfl (if_neg (by simp [h]))
  · exact stays rfl (if_neg (by simp [h]))

/-! ## The state after a reset -/

theorem port_reset (i : Slot) : State.reset.port i = Sys2Proof.Machine.resetPort := get_replicate _ i

theorem factoryPages_zero : factoryPages.get 0 = .valid factoryImage :=
  get_set_self (Vector.replicate 8 Page.blank) 0 (.valid factoryImage)

theorem factoryPages_other {p : Slot} (h : p ≠ 0) : factoryPages.get p = .blank :=
  (get_set_other (Vector.replicate 8 Page.blank) (.valid factoryImage) h).trans (get_replicate _ p)

theorem reset_tablesValid : State.reset.TablesValid := by
  have hp : ∀ i : Slot, ((Vector.replicate 8 defaultPolicy).get i).valid = true := fun i => by
    rw [get_replicate]; decide
  refine ⟨hp, hp, by decide, fun p => ?_, by simp [State.reset]⟩
  show (factoryPages.get p).sound = true
  by_cases hp : p = 0
  · rw [hp, factoryPages_zero]
    rfl
  · rw [factoryPages_other hp]
    rfl

theorem reset_noticesOrdered : State.reset.NoticesOrdered :=
  ⟨by simp [State.reset, resetNotices], by simp [State.reset, resetNotices], by simp [State.reset, resetNotices],
    by decide, by decide, by simp [State.reset, resetNotices], rfl⟩

/-- Page 0 is the one page that leaves the factory VALID (R157). -/
theorem eq_zero_of_generation? {p : Slot} (h : (State.reset.page p).generation? ≠ none) : p = 0 := by
  by_contra hp
  exact h (congrArg Page.generation? (factoryPages_other hp))

theorem reset_storeHolds : State.reset.StoreHolds := by
  refine ⟨?_, by simp [State.reset], fun p q hpq hp he => ?_, factoryPages_intact⟩
  · show factoryPages.get 0 ≠ .blank
    rw [factoryPages_zero]
    simp
  · have hq0 : q = 0 := eq_zero_of_generation? fun hn => hp (he.trans hn)
    exact hpq ((eq_zero_of_generation? hp).trans hq0.symm)

/-- Settles O2: each law of the reset values. -/
theorem resetStateIsSound : Obligations.ResetStateIsSound := by
  refine ⟨rfl, rfl, rfl, ?_, reset_tablesValid, ⟨rfl, rfl, by simp [State.reset, resetAdmission]⟩,
    queueOrdered_of_adm_reset rfl, ?_, ?_, reset_noticesOrdered, reset_storeHolds, ?_, ?_⟩
  · exact fun _ => ⟨port_reset, rfl, rfl, rfl, rfl, rfl, rfl, rfl, rfl⟩
  · refine ⟨by simp [State.reset, resetAdmission], by simp [State.reset, resetAdmission], fun i => ?_⟩
    rw [State.enableValue, port_reset]
    rfl
  · refine ⟨by decide, by decide, by decide, by decide, fun i => ?_⟩
    rw [port_reset]
    exact ⟨by decide, Nat.zero_le 4⟩
  · exact ⟨by simp [State.reset], by decide, by decide, by decide, by decide⟩
  · refine ⟨fun i => ?_, by simp [State.reset]⟩
    rw [port_reset]
    decide

/-! ## A commit at one slot -/

section Align

variable {i : Slot} {old : Policy}

/-- The enable output of a slot that is not PRESENT, or holds no granted contract (R103). -/
theorem enableValue_of_not_present (h : (s.port i).state ≠ .present) : s.enableValue i = false := by
  simp [State.enableValue, h]

theorem enableValue_of_present (h : (s.port i).state = .present) : s.enableValue i = s.holdsGrant i := by
  simp [State.enableValue, h, State.contractsOf, List.any_filter, State.holdsGrant]

/-- A slot's change of state with its enable output worked out afresh. -/
theorem onPort_evalEnable (f : SlotPort → SlotPort) : (s.onPort i f).evalEnable i =
    s.setPort i { f (s.port i) with enable := (s.onPort i f).enableValue i } := by
  rw [evalEnable_eq, port_onPort_self, State.onPort, setPort_setPort]

theorem onPort_evalEnable_of_not_present {f : SlotPort → SlotPort} (h : (f (s.port i)).state ≠ .present) :
    (s.onPort i f).evalEnable i = s.setPort i { f (s.port i) with enable := false } := by
  rw [onPort_evalEnable, enableValue_of_not_present (by rwa [port_onPort_self])]

theorem disable_eq : s.disable i = s.setPort i
    { s.port i with
      state := .disabled, probeDeadline := none, answerDeadline := none, penaltyEnd := none, joinCount := 0,
      missCount := 0, declared := none, receiver := huntingReceiver, enable := false } :=
  onPort_evalEnable_of_not_present (by simp)

theorem enterVacant_eq (probe : Option Time) : s.enterVacant i probe = s.setPort i
    { s.port i with
      state := .vacant, joinCount := 0, missCount := 0, declared := none, answerDeadline := none,
      penaltyEnd := none, probeDeadline := probe, enable := false } :=
  onPort_evalEnable_of_not_present (by simp)

theorem enterMismatch_eq (k : EventKind) : s.enterKnown i .mismatch k =
    (s.setPort i { s.port i with state := .mismatch, enable := false }).raise k (some (.slot i))
      (declaredDetail (s.port i).declared) := by
  unfold State.enterKnown
  rw [onPort_evalEnable_of_not_present (by simp)]

theorem enterPresent_eq (k : EventKind) : s.enterKnown i .present k =
    (s.setPort i { s.port i with state := .present, enable := s.holdsGrant i }).raise k (some (.slot i))
      (declaredDetail (s.port i).declared) := by
  unfold State.enterKnown
  rw [onPort_evalEnable, enableValue_of_present (by rw [port_onPort_self])]
  rfl

/-! ### The closing of a slot -/

theorem foldl_order_adm (l : List Contract) : ∀ s : State,
    (l.foldl (fun u c => u.order i (.closed c.tag .policy)) s).adm = s.adm
      ∧ (l.foldl (fun u c => u.order i (.closed c.tag .policy)) s).eng = s.eng
      ∧ ((l.foldl (fun u c => u.order i (.closed c.tag .policy)) s).port i).declared = (s.port i).declared := by
  induction l with
  | nil => exact fun s => ⟨rfl, rfl, rfl⟩
  | cons c r ih =>
    intro s
    obtain ⟨hadm, heng, hdecl⟩ := ih (s.order i (.closed c.tag .policy))
    refine ⟨hadm, heng, hdecl.trans ?_⟩
    unfold State.order
    rw [port_onPort_self]
    (repeat' split) <;> rfl

theorem withAnswer_declared (p : SlotPort) (r : Reply) : (p.withAnswer r).declared = p.declared := by
  unfold SlotPort.withAnswer; split <;> rfl

theorem foldl_withAnswer_declared (l : List QueueEntry) : ∀ p : SlotPort,
    (l.foldl (fun p e => p.withAnswer (.refuse e.tag .policy)) p).declared = p.declared := by
  induction l with
  | nil => exact fun _ => rfl
  | cons e r ih => exact fun p => (ih _).trans (withAnswer_declared p _)

theorem filter_eraseP_of_slot (g : Byte) (l : List QueueEntry) :
    (l.eraseP (QueueEntry.isOf i g)).filter (·.slot != i) = l.filter (·.slot != i) := by
  induction l with
  | nil => rfl
  | cons e r ih =>
    by_cases h : e.isOf i g = true
    · have hs : e.slot = i := congrArg Prod.fst (QueueEntry.isOf_iff.1 h)
      simp [h, hs]
    · simp only [List.eraseP_cons_of_neg h, List.filter_cons, ih]

theorem filter_erase_of_slot (g : Byte) (l : List (Slot × Byte)) :
    (l.erase (i, g)).filter (·.1 != i) = l.filter (·.1 != i) := by
  induction l with
  | nil => rfl
  | cons k r ih =>
    by_cases h : k = (i, g)
    · simp [h]
    · rw [List.erase_cons_tail (by simpa using h), List.filter_cons, List.filter_cons, ih]

theorem filter_record_of_slot (g : Byte) (o : Option PreemptRecord) :
    (o.filter fun r => !(r.slot == i && r.tag == g)).filter (·.slot != i) = o.filter (·.slot != i) := by
  cases o with
  | none => rfl
  | some r => by_cases h : r.slot = i <;> by_cases h' : r.tag = g <;> simp [Option.filter, h, h']

/-- Claims of a slot that leave with an answer each: what is left beside the slot is as it was. -/
theorem foldl_refuse (l : List QueueEntry) : ∀ s : State, ∃ queue arrival record,
    l.foldl (fun s e => (s.leaveQueue i e.tag).refuse i e.tag .policy) s =
        { s with
          adm.queue := queue
          adm.arrival := arrival
          eng.record := record
          ports := s.ports.set i (l.foldl (fun p e => p.withAnswer (.refuse e.tag .policy)) (s.port i)) }
      ∧ queue.filter (·.slot != i) = s.adm.queue.filter (·.slot != i)
      ∧ arrival.filter (·.1 != i) = s.adm.arrival.filter (·.1 != i)
      ∧ record.filter (·.slot != i) = s.eng.record.filter (·.slot != i) := by
  induction l with
  | nil =>
    refine fun s => ⟨s.adm.queue, s.adm.arrival, s.eng.record, ?_, rfl, rfl, rfl⟩
    rw [List.foldl_nil, List.foldl_nil, State.port, set_get_self]
  | cons e r ih =>
    intro s
    obtain ⟨queue, arrival, record, hfold, hq, ha, hr⟩ := ih ((s.leaveQueue i e.tag).refuse i e.tag .policy)
    refine ⟨queue, arrival, record, ?_, hq.trans (filter_eraseP_of_slot e.tag _),
      ha.trans (filter_erase_of_slot e.tag _), hr.trans (filter_record_of_slot e.tag _)⟩
    have hport : ((s.leaveQueue i e.tag).refuse i e.tag .policy).port i =
        (s.port i).withAnswer (.refuse e.tag .policy) := port_onPort_self _ i _
    have hports : ((s.leaveQueue i e.tag).refuse i e.tag .policy).ports =
        s.ports.set i ((s.port i).withAnswer (.refuse e.tag .policy)) := rfl
    rw [List.foldl_cons, List.foldl_cons, hfold, hport, hports, Vector.set_set]
    rfl

/-- R24, R118: the state in which a commit closes a slot. -/
def State.closedByPolicy (s : State) (i : Slot) : State :=
  let told := (s.contractsOf i).foldl (fun u c => u.order i (.closed c.tag .policy)) s
  { told with
    adm.contracts := s.adm.contracts.filter (·.slot != i)
    adm.queue := s.adm.queue.filter (·.slot != i)
    adm.arrival := s.adm.arrival.filter (·.1 != i)
    adm.committed := s.adm.committed - totalAmount (s.contractsOf i)
    eng.pledged := s.eng.pledged - totalRelief (s.contractsOf i)
    eng.record := s.eng.record.filter (·.slot != i)
    ports := told.ports.set i
      { (s.claimsOf i).foldl (fun p e => p.withAnswer (.refuse e.tag .policy)) (told.port i) with enable := false } }

/-- A slot whose contracts and claims have all been removed (R24). -/
theorem removeSlot_eq : s.removeSlot i =
    { s with
      adm.contracts := s.adm.contracts.filter (·.slot != i)
      adm.queue := s.adm.queue.filter (·.slot != i)
      adm.arrival := s.adm.arrival.filter (·.1 != i)
      adm.committed := s.adm.committed - totalAmount (s.contractsOf i)
      eng.pledged := s.eng.pledged - totalRelief (s.contractsOf i)
      eng.record := s.eng.record.filter (·.slot != i)
      ports := s.ports.set i { s.port i with enable := false } } := by
  have hnone : (s.cleared i).enableValue i = false := by
    simp [State.enableValue, State.contractsOf, State.cleared]
  have hvalue : ∀ record, ({ s.cleared i with eng.record := record } : State).enableValue i = false := fun _ => hnone
  unfold State.removeSlot
  rw [evalEnable_eq]
  exact congrArg (fun b => State.setPort { s.cleared i with eng.record := s.eng.record.filter (·.slot != i) } i
    { s.port i with enable := b }) (hvalue _)

theorem closeForPolicy_eq : s.closeForPolicy i = s.closedByPolicy i := by
  obtain ⟨hadm, heng, -⟩ := foldl_order_adm (i := i) (s.contractsOf i) s
  obtain ⟨queue, arrival, record, hfold, hq, ha, hr⟩ := foldl_refuse (i := i) (s.claimsOf i)
    ((s.contractsOf i).foldl (fun u c => u.order i (.closed c.tag .policy)) s)
  unfold State.closeForPolicy State.closedByPolicy
  dsimp only
  generalize (s.contractsOf i).foldl (fun u c => u.order i (.closed c.tag .policy)) s = told at *
  rw [hfold, removeSlot_eq]
  simp only [State.contractsOf, State.port, get_set_self, Vector.set_set, hq, ha, hr, hadm, heng]

theorem closedByPolicy_declared : ((s.closedByPolicy i).port i).declared = (s.port i).declared := by
  obtain ⟨-, -, hdecl⟩ := foldl_order_adm (i := i) (s.contractsOf i) s
  refine .trans ?_ hdecl
  unfold State.closedByPolicy
  dsimp only
  rw [State.port, get_set_self]
  exact foldl_withAnswer_declared _ _

/-! ### The table of R118 -/

theorem accepts_iff {p : Policy} {d : Option Declared} :
    p.accepts d = true ↔ p.requiredClass = 0 ∨ ∃ x ∈ d, x.cls = p.requiredClass := by
  unfold Policy.accepts
  cases d <;> simp

theorem declaredDetail_eq (d : Option Declared) :
    declaredDetail d = match d with | some d => d.cls.toNat | none => 0 := by
  cases d <;> rfl

theorem alignSlot_closing (ho : old.enabled = true) (hn : (s.policy i).enabled = false) :
    alignSlot old i s = if (s.port i).state = .present then (s.closeForPolicy i).disable i else s.disable i := by
  cases hst : (s.port i).state <;> simp [alignSlot, ho, hn, hst]

theorem alignSlot_opening (ho : old.enabled = false) (hn : (s.policy i).enabled = true) :
    alignSlot old i s = if (s.port i).state = .disabled then s.enterVacant i (some s.nextProbe) else s := by
  cases hst : (s.port i).state <;> simp [alignSlot, ho, hn, hst]

theorem alignSlot_staying (ho : old.enabled = true) (hn : (s.policy i).enabled = true) : alignSlot old i s =
    if (s.port i).state = .present ∧ old.requiredClass ≠ (s.policy i).requiredClass
        ∧ (s.policy i).accepts (s.port i).declared = false then
      (s.closeForPolicy i).enterKnown i .mismatch .slotMismatch
    else if (s.port i).state = .mismatch ∧ (s.policy i).accepts (s.port i).declared = true then
      s.enterKnown i .present .slotJoined
    else s := by
  cases hst : (s.port i).state with
  | present =>
    by_cases hc : old.requiredClass = (s.policy i).requiredClass
    · simp [alignSlot, ho, hn, hst, hc]
    · cases ha : (s.policy i).accepts (s.port i).declared <;> simp [alignSlot, ho, hn, hst, hc, ha]
  | mismatch => cases ha : (s.policy i).accepts (s.port i).declared <;> simp [alignSlot, ho, hn, hst, ha]
  | _ => simp [alignSlot, ho, hn, hst]

theorem alignSlot_disabled (ho : old.enabled = false) (hn : (s.policy i).enabled = false) : alignSlot old i s = s := by
  simp [alignSlot, ho, hn]

end Align

/-- Settles O48: by the old and the new enabled field. -/
theorem commitAlignsASlot : Obligations.CommitAlignsASlot := by
  intro s i old new p told closed takes detail off
  have hclosed : s.closeForPolicy i = closed := closeForPolicy_eq
  have hdetail : declaredDetail p.declared = detail := declaredDetail_eq _
  have hdecl : (closed.port i).declared = p.declared := closedByPolicy_declared
  have htakes : new.accepts p.declared = true ↔ takes := accepts_iff
  cases ho : old.enabled <;> cases hn : new.enabled
  case false.false => simpa using alignSlot_disabled ho hn
  case false.true =>
    rw [alignSlot_opening ho hn]
    simp [enterVacant_eq, State.nextProbe, p]
  case true.false =>
    rw [alignSlot_closing ho hn, hclosed, disable_eq, disable_eq]
    simp [off, p]
  case true.true =>
    rw [alignSlot_staying ho hn, hclosed, enterMismatch_eq, enterPresent_eq, hdecl, hdetail]
    simp [← htakes, p, new]

end Sys2Proof.Machine

/-!
# The pending claim queue

A pass leaves the machine settled: what it passed over stays passed over while room only falls, and what it stopped at
stops it again, after a hand-off that is made once. Each hand-off marks one more claim, so passes come to an end. After
that come the single tests of a pass, the claims that wait, and the stages of a commit.
-/

namespace Sys2Proof.Machine

-- The theorems are checked one after another: side by side, each would hold a thread of its own while it waits.
set_option Elab.async false

open Config

variable {s t u : State}

/-! ## The first of a pair in the queue -/

theorem modifyFirst_append {α : Type} {p : α → Bool} {f : α → α} {pre post : List α} {a : α}
    (hpre : ∀ x ∈ pre, p x = false) (ha : p a = true) : modifyFirst p f (pre ++ a :: post) = pre ++ f a :: post := by
  induction pre with
  | nil => simp [modifyFirst, ha]
  | cons x r ih => simp [modifyFirst, hpre x (by simp), ih fun y hy => hpre y (by simp [hy])]

theorem eraseP_append {α : Type} {p : α → Bool} {pre post : List α} {a : α}
    (hpre : ∀ x ∈ pre, p x = false) (ha : p a = true) : (pre ++ a :: post).eraseP p = pre ++ post := by
  rw [List.eraseP_append_right _ fun x hx => by simp [hpre x hx], List.eraseP_cons_of_pos ha]

/-- R3: no entry ahead of a queued claim has its pair. -/
theorem State.KeysSound.isOf_ahead (h : s.KeysSound) {pre post : List QueueEntry} {e : QueueEntry}
    (hq : s.adm.queue = pre ++ e :: post) : ∀ x ∈ pre, x.isOf e.slot e.tag = false := by
  intro x hx
  have hn := h.queue_nodup
  rw [hq, List.map_append, List.map_cons, List.nodup_append] at hn
  rw [Bool.eq_false_iff, Ne, QueueEntry.isOf_iff]
  exact hn.2.2 _ (List.mem_map_of_mem hx) _ (by simp [QueueEntry.key])

theorem keysSound_of_moves (h : s.Moves t) (hk : s.KeysSound) : t.KeysSound := h.keeps (fun _ _ hm => hm.keysSound) hk

/-! ## The walk, entry by entry -/

section Walk

variable {e : QueueEntry} {rest : List QueueEntry} {amount : Nat}

theorem passWalk_full (h : s.passStep e = .full) : passWalk (e :: rest) s = (s, none) := by simp [passWalk, h]
theorem passWalk_passed (h : s.passStep e = .passed) : passWalk (e :: rest) s = passWalk rest s := by simp [passWalk, h]
theorem passWalk_taken (h : s.passStep e = .taken amount) :
    passWalk (e :: rest) s = passWalk rest (s.grantEntry e amount) := by simp [passWalk, h]
theorem passWalk_blocked (h : s.passStep e = .blocked) : passWalk (e :: rest) s = (s, some e) := by simp [passWalk, h]

/-- Test 1 of R36. -/
theorem passStep_of_full (h : contractPlaces ≤ s.adm.contracts.length) : s.passStep e = .full := by
  simp [State.passStep, h]

theorem full_of_passStep (h : s.passStep e = .full) : contractPlaces ≤ s.adm.contracts.length := by
  by_contra hn
  unfold State.passStep at h
  rw [if_neg hn] at h
  (repeat' split at h) <;> cases h

/-- Test 2 of R36: the least does not fit under the slot's ceiling. -/
def State.skips (s : State) (e : QueueEntry) : Prop := s.ceilingRoom e.slot < e.least

theorem passStep_of_skips (hroom : s.adm.contracts.length < contractPlaces) (h : s.skips e) : s.passStep e = .passed := by
  unfold State.passStep
  rw [if_neg (Nat.not_le.2 hroom), if_pos (show s.ceilingRoom e.slot < e.least from h)]

theorem le_roundDown {step n m : Nat} (hd : step ∣ n) (h : n ≤ m) : n ≤ roundDown step m := by
  calc n = n / step * step := (Nat.div_mul_cancel hd).symm
    _ ≤ m / step * step := Nat.mul_le_mul_right _ (Nat.div_le_div_right h)

/-- The ceiling case of R37 does not arise where the least is a multiple of the step: what is passed over is so by
test 2 of R36. -/
theorem skips_of_passStep (h : s.passStep e = .passed) (hd : (s.policy e.slot).step ∣ e.least) : s.skips e := by
  by_contra hn
  have hle : e.least ≤ roundDown (s.policy e.slot).step (s.ceilingRoom e.slot) := le_roundDown hd (Nat.not_lt.1 hn)
  unfold State.passStep at h
  rw [if_neg (show ¬ s.ceilingRoom e.slot < e.least from hn), if_neg (Nat.not_lt.2 hle)] at h
  (repeat' split at h) <;> cases h

theorem grantEntry_contracts : (s.grantEntry e amount).adm.contracts =
    s.adm.contracts ++ [⟨e.slot, e.tag, amount, .offered (s.now + s.pol.items.acceptWindow)⟩] := by
  simp only [State.grantEntry, createOffer_eq, order_adm, evalFlags_adm]
  rfl

theorem totalAmount_append (a b : List Contract) : totalAmount (a ++ b) = totalAmount a + totalAmount b := by
  simp [totalAmount]

/-- An admission only lowers ceiling room. -/
theorem ceilingRoom_grantEntry_le (i : Slot) : (s.grantEntry e amount).ceilingRoom i ≤ s.ceilingRoom i := by
  unfold State.ceilingRoom State.contractsOf
  rw [Kept_policy (kept_grantEntry e amount), grantEntry_contracts, List.filter_append, totalAmount_append]
  exact Nat.sub_le_sub_left (Nat.le_add_right _ _) _

theorem skips_grantEntry {x : QueueEntry} (h : s.skips x) : (s.grantEntry e amount).skips x :=
  lt_of_le_of_lt (ceilingRoom_grantEntry_le x.slot) h

end Walk

/-! ## Where a walk ends -/

/-- R5: every queued least is a multiple of its slot's step. -/
def State.LeastsInSteps (s : State) : Prop := ∀ e ∈ s.adm.queue, (s.policy e.slot).step ∣ e.least

/-- The end of a walk: the table is full or every entry is passed over, or it stops at an entry that it reaches past
entries it passes over. -/
def State.Stopped (s : State) : Option QueueEntry → Prop
  | none => contractPlaces ≤ s.adm.contracts.length ∨ ∀ x ∈ s.adm.queue, s.skips x
  | some e => ∃ pre post, s.adm.queue = pre ++ e :: post ∧ (∀ x ∈ pre, s.skips x) ∧ s.passStep e = .blocked

/-- What a walk has passed over when it ends, it passes over in the state it leaves. -/
theorem passWalk_stopped (l : List QueueEntry) : ∀ (pre : List QueueEntry) (s : State), s.adm.queue = pre ++ l →
    s.KeysSound → s.LeastsInSteps → (∀ x ∈ pre, s.skips x) → (passWalk l s).1.Stopped (passWalk l s).2 := by
  induction l with
  | nil => exact fun pre s hq _ _ hpre => .inr fun x hx => hpre x (by simpa [passWalk, hq] using hx)
  | cons e rest ih =>
    intro pre s hq hk hd hpre
    have he : e ∈ s.adm.queue := by simp [hq]
    cases hstep : s.passStep e with
    | full =>
      rw [passWalk_full hstep]
      exact .inl (full_of_passStep hstep)
    | passed =>
      rw [passWalk_passed hstep]
      refine ih (pre ++ [e]) s (by simp [hq]) hk hd fun x hx => ?_
      rcases List.mem_append.1 hx with hx | hx
      · exact hpre x hx
      · rw [List.mem_singleton.1 hx]
        exact skips_of_passStep hstep (hd e he)
    | taken amount =>
      rw [passWalk_taken hstep]
      have hm := moves_grantEntry (amount := amount) he (room_of_passStep_taken hstep)
      have hqueue : (s.grantEntry e amount).adm.queue = pre ++ rest := by
        rw [grantEntry_queue, hq, eraseP_append (hk.isOf_ahead hq) (QueueEntry.isOf_self e)]
      refine ih pre _ hqueue (keysSound_of_moves hm hk) (fun x hx => ?_) fun x hx =>
        skips_grantEntry (hpre x hx)
      rw [Kept_policy (kept_grantEntry e amount)]
      exact hd x (List.eraseP_subset (grantEntry_queue e amount ▸ hx))
    | blocked =>
      rw [passWalk_blocked hstep]
      exact ⟨pre, rest, hq, hpre, hstep⟩

/-- A walk over entries that are passed over changes nothing until it is past them. -/
theorem passWalk_skips {pre : List QueueEntry} (l : List QueueEntry) (hroom : s.adm.contracts.length < contractPlaces)
    (h : ∀ x ∈ pre, s.skips x) : passWalk (pre ++ l) s = passWalk l s := by
  induction pre with
  | nil => rfl
  | cons e r ih =>
    rw [List.cons_append, passWalk_passed (passStep_of_skips hroom (h e (by simp))), ih fun x hx => h x (by simp [hx])]

theorem room_of_passStep_blocked {e : QueueEntry} (h : s.passStep e = .blocked) :
    s.adm.contracts.length < contractPlaces := by
  by_contra hn
  rw [passStep_of_full (Nat.not_lt.1 hn)] at h
  cases h

/-- A walk that begins where one has ended ends there. -/
theorem passWalk_of_stopped {r : Option QueueEntry} (h : s.Stopped r) : passWalk s.adm.queue s = (s, r) := by
  cases r with
  | some e =>
    obtain ⟨pre, post, hq, hpre, hstep⟩ := h
    rw [hq, passWalk_skips _ (room_of_passStep_blocked hstep) hpre, passWalk_blocked hstep]
  | none =>
    by_cases hfull : contractPlaces ≤ s.adm.contracts.length
    · cases hq : s.adm.queue with
      | nil => rfl
      | cons e rest => exact passWalk_full (passStep_of_full hfull)
    · have hs := passWalk_skips [] (Nat.not_le.1 hfull) (h.resolve_left hfull)
      rwa [List.append_nil] at hs

/-- A walk takes entries out of the queue, and the one it stops at stays in it. -/
theorem passWalk_queue (l : List QueueEntry) : ∀ s : State, l.Sublist s.adm.queue →
    (passWalk l s).1.adm.queue.Sublist s.adm.queue ∧ ∀ e ∈ (passWalk l s).2, e ∈ (passWalk l s).1.adm.queue := by
  induction l with
  | nil => exact fun s _ => ⟨.refl _, by simp [passWalk]⟩
  | cons e rest ih =>
    intro s hl
    cases hstep : s.passStep e with
    | full =>
      rw [passWalk_full hstep]
      exact ⟨.refl _, by simp⟩
    | passed =>
      rw [passWalk_passed hstep]
      exact ih s ((List.sublist_cons_self e rest).trans hl)
    | taken amount =>
      rw [passWalk_taken hstep]
      have hq := grantEntry_queue (s := s) e amount
      obtain ⟨hsub, hmem⟩ := ih (s.grantEntry e amount) (hq ▸ sublist_eraseP (QueueEntry.isOf_self e) hl)
      exact ⟨hsub.trans (hq ▸ List.eraseP_sublist), hmem⟩
    | blocked =>
      rw [passWalk_blocked hstep]
      exact ⟨.refl _, by simpa using hl.subset (by simp)⟩

/-! ## The hand-off -/

section HandOff

variable {e : QueueEntry}

/-- The claim after its hand-off has been made (R38). -/
def QueueEntry.requested (e : QueueEntry) : QueueEntry := { e with reliefRequested := true }

/-- The mark stands on the claim of the hand-off and on no other. -/
theorem markRequested_queue {pre post : List QueueEntry} (hk : s.KeysSound) (hq : s.adm.queue = pre ++ e :: post) :
    (s.markRequested e).adm.queue = pre ++ e.requested :: post := by
  show modifyFirst (QueueEntry.isOf e.slot e.tag) QueueEntry.requested s.adm.queue = _
  rw [hq, modifyFirst_append (hk.isOf_ahead hq) (QueueEntry.isOf_self e)]

theorem mayRequest_requested : s.mayRequest e.requested = false := by simp [State.mayRequest, QueueEntry.requested]

theorem handOff_of_silent (h : s.mayRequest e = false) : handOff e s = (s, false) := by simp [handOff, h]

theorem handOff_of_record (h : s.mayRequest e = true) (hr : s.eng.record ≠ none) :
    handOff e s = (s.markRequested e, false) := by
  cases hrec : s.eng.record with
  | none => exact absurd hrec hr
  | some r => simp [handOff, h, hrec]

/-- The state in which the round of a hand-off runs (R38, R75). -/
def State.requesting (s : State) (e : QueueEntry) : State :=
  { s.markRequested e with eng.record := some (s.requestFor e) }

theorem handOff_of_no_record (h : s.mayRequest e = true) (hr : s.eng.record = none) :
    handOff e s = preemptRound (s.requestFor e) (s.requesting e) := by
  simp [handOff, h, hr, State.requesting]

theorem withdraw_queue (i : Slot) (g : Byte) : (s.withdraw i g).adm.queue = s.adm.queue := by
  simp only [State.withdraw, State.closeContract, order_adm, evalFlags_adm]
  unfold State.removeContract
  split <;> rfl

theorem preemptWithdraw_queue (bound fuel : Nat) : ∀ (need : Nat) (s : State),
    (preemptWithdraw bound fuel need s).1.adm.queue = s.adm.queue := by
  induction fuel with
  | zero => exact fun _ _ => rfl
  | succ fuel ih =>
    intro need s
    unfold preemptWithdraw
    split
    · rfl
    · split
      · rfl
      · exact (ih _ _).trans (withdraw_queue _ _)

/-- Where a preempt round reports no withdrawal, its first step left the state and the need as they were (R76). -/
theorem preemptWithdraw_of_none {bound fuel need : Nat} (h : (preemptWithdraw bound fuel need s).2.2 = false) :
    preemptWithdraw bound fuel need s = (s, need, false) := by
  cases fuel with
  | zero => rfl
  | succ fuel =>
    unfold preemptWithdraw at h ⊢
    split
    · rfl
    · next hn =>
      rw [if_neg hn] at h
      split at h
      · rfl
      · cases h

/-- The sheds leave all that a pass looks at: each contract's slot and amount, the queue, committed power, the budget
figures and the policy. -/
structure State.SameForPass (s t : State) : Prop where
  contracts : t.adm.contracts.map (fun c => (c.slot, c.amount)) = s.adm.contracts.map fun c => (c.slot, c.amount)
  queue : t.adm.queue = s.adm.queue
  committed : t.adm.committed = s.adm.committed
  bud : t.bud = s.bud
  pol : t.pol = s.pol

theorem State.SameForPass.refl (s : State) : s.SameForPass s := ⟨rfl, rfl, rfl, rfl, rfl⟩

theorem State.SameForPass.trans (h : s.SameForPass t) (k : t.SameForPass u) : s.SameForPass u :=
  ⟨k.contracts.trans h.contracts, k.queue.trans h.queue, k.committed.trans h.committed, k.bud.trans h.bud,
    k.pol.trans h.pol⟩

theorem shedTo_slot_amount (target deadline : Nat) (forced : Bool) (c : Contract) :
    ((c.shedTo target deadline forced).slot, (c.shedTo target deadline forced).amount) = (c.slot, c.amount) := by
  unfold Contract.shedTo; split <;> rfl

theorem sameForPass_issueShed (i : Slot) (g : Byte) (target : Nat) (forced : Bool) :
    s.SameForPass (s.issueShed i g target forced) := by
  unfold State.issueShed
  split
  · exact .refl s
  · split
    · exact ⟨map_modifyFirst (shedTo_slot_amount _ _ _) _, rfl, rfl, rfl, rfl⟩
    · exact .refl s

theorem sameForPass_preemptShed (bound fuel : Nat) : ∀ (need : Nat) (s : State),
    s.SameForPass (preemptShed bound fuel need s) := by
  induction fuel with
  | zero => exact fun _ s => .refl s
  | succ fuel ih =>
    intro need s
    unfold preemptShed
    split
    · exact .refl s
    · split
      · exact .refl s
      · exact (sameForPass_issueShed _ _ _ _).trans (ih _ _)

theorem preemptRound_queue (r : PreemptRecord) : (preemptRound r s).1.adm.queue = s.adm.queue :=
  (sameForPass_preemptShed _ _ _ _).queue.trans (preemptWithdraw_queue _ _ _ _)

/-- A round that calls for no pass has only shed (R58). -/
theorem sameForPass_preemptRound {r : PreemptRecord} (h : (preemptRound r s).2 = false) :
    s.SameForPass (preemptRound r s).1 := by
  have hw := preemptWithdraw_of_none h
  unfold preemptRound
  rw [hw]
  exact sameForPass_preemptShed _ _ _ _

/-- What a hand-off does to the queue: it marks the claim, or nothing. -/
theorem handOff_queue : (handOff e s).1.adm.queue =
    if s.mayRequest e = true then (s.markRequested e).adm.queue else s.adm.queue := by
  cases hm : s.mayRequest e with
  | false => simp [handOff_of_silent hm]
  | true =>
    by_cases hr : s.eng.record = none
    · rw [handOff_of_no_record hm hr, preemptRound_queue]
      rfl
    · rw [handOff_of_record hm hr]
      rfl

/-- A hand-off that calls for no pass leaves what a pass looks at, but for the mark on its claim. -/
theorem sameForPass_handOff (hm : s.mayRequest e = true) (h : (handOff e s).2 = false) :
    (s.markRequested e).SameForPass (handOff e s).1 := by
  by_cases hr : s.eng.record = none
  · rw [handOff_of_no_record hm hr] at h ⊢
    exact .trans (t := s.requesting e) ⟨rfl, rfl, rfl, rfl, rfl⟩ (sameForPass_preemptRound h)
  · rw [handOff_of_record hm hr]
    exact .refl _

theorem mayRequest_of_handOff (h : (handOff e s).2 = true) : s.mayRequest e = true := by
  by_contra hn
  rw [handOff_of_silent (by simpa using hn)] at h
  cases h

end HandOff

/-! ## Tests that read the same -/

theorem State.SameForPass.length (h : s.SameForPass t) : t.adm.contracts.length = s.adm.contracts.length := by
  simpa using congrArg List.length h.contracts

theorem State.SameForPass.policy (h : s.SameForPass t) (i : Slot) : t.policy i = s.policy i := policy_congr h.pol i

/-- The reservations of a slot, from the slots and amounts of the contracts. -/
theorem totalAmount_contractsOf (i : Slot) : totalAmount (s.contractsOf i) =
    (((s.adm.contracts.map fun c => (c.slot, c.amount)).filter (·.1 == i)).map (·.2)).sum := by
  simp only [totalAmount, State.contractsOf, List.filter_map, List.map_map]
  rfl

theorem State.SameForPass.ceilingRoom (h : s.SameForPass t) (i : Slot) : t.ceilingRoom i = s.ceilingRoom i := by
  unfold State.ceilingRoom
  rw [totalAmount_contractsOf, totalAmount_contractsOf, h.contracts, h.policy]

theorem State.SameForPass.room (h : s.SameForPass t) : t.room = s.room := by
  unfold State.room
  rw [h.committed, h.bud]

theorem State.SameForPass.passStep (h : s.SameForPass t) (e : QueueEntry) : t.passStep e = s.passStep e := by
  unfold State.passStep State.offerAmount
  rw [h.length, h.ceilingRoom, h.room, h.policy, h.bud]

theorem State.SameForPass.stopped (h : s.SameForPass t) {e : QueueEntry} (hs : s.Stopped (some e)) :
    t.Stopped (some e) := by
  obtain ⟨pre, post, hq, hpre, hstep⟩ := hs
  refine ⟨pre, post, h.queue.trans hq, fun x hx => ?_, (h.passStep e).trans hstep⟩
  unfold State.skips
  rw [h.ceilingRoom]
  exact hpre x hx

/-- The mark is on the claim at which the walk stopped, and it stops there again. -/
theorem stopped_markRequested {e : QueueEntry} (hk : s.KeysSound) (h : s.Stopped (some e)) :
    (s.markRequested e).Stopped (some e.requested) := by
  obtain ⟨pre, post, hq, hpre, hstep⟩ := h
  exact ⟨pre, post, markRequested_queue hk hq, hpre, hstep⟩

/-! ## Settled states -/

/-- A state in which a walk changes nothing and no hand-off is left to make. -/
def State.Settled (s : State) : Prop :=
  passWalk s.adm.queue s = (s, none) ∨ ∃ e, passWalk s.adm.queue s = (s, some e) ∧ s.mayRequest e = false

theorem admissionPass_of_none {fuel : Nat} (h : passWalk s.adm.queue s = (u, none)) :
    admissionPass (fuel + 1) s = u := by
  simp [admissionPass, h]

theorem admissionPass_of_some {fuel : Nat} {e : QueueEntry} (h : passWalk s.adm.queue s = (u, some e)) :
    admissionPass (fuel + 1) s =
      if (handOff e u).2 = true then admissionPass fuel (handOff e u).1 else (handOff e u).1 := by
  simp only [admissionPass, h]
  split
  · next v hv => simp [hv]
  · next v hv => simp [hv]

theorem runPass_of_settled (h : s.Settled) : runPass s = s := by
  rcases h with h | ⟨e, h, hm⟩
  · exact admissionPass_of_none h
  · refine (admissionPass_of_some h).trans ?_
    rw [handOff_of_silent hm]
    rfl

theorem settled_of_stopped_none (h : s.Stopped none) : s.Settled := .inl (passWalk_of_stopped h)

/-- A hand-off that calls for no further pass leaves a settled state. -/
theorem settled_handOff {e : QueueEntry} (hk : s.KeysSound) (h : s.Stopped (some e)) (hh : (handOff e s).2 = false) :
    (handOff e s).1.Settled := by
  cases hm : s.mayRequest e with
  | false =>
    rw [handOff_of_silent hm]
    exact .inr ⟨e, passWalk_of_stopped h, hm⟩
  | true =>
    have hagain := (sameForPass_handOff hm hh).stopped (stopped_markRequested hk h)
    exact .inr ⟨e.requested, passWalk_of_stopped hagain, mayRequest_requested⟩

/-! ## The passes come to an end -/

/-- The queued claims for which no relief has been asked. -/
def State.unasked (s : State) : Nat := s.adm.queue.countP fun e => !e.reliefRequested

theorem unasked_markRequested {e : QueueEntry} (hk : s.KeysSound) (he : e ∈ s.adm.queue)
    (hr : e.reliefRequested = false) : (s.markRequested e).unasked + 1 = s.unasked := by
  obtain ⟨pre, post, hq⟩ := List.append_of_mem he
  unfold State.unasked
  rw [markRequested_queue hk hq, hq, List.countP_append, List.countP_append, List.countP_cons, List.countP_cons]
  simp [QueueEntry.requested, hr]
  omega

/-- R38: a hand-off asks for the relief of one more claim. -/
theorem unasked_handOff_lt {e : QueueEntry} (hk : s.KeysSound) (he : e ∈ s.adm.queue) (h : (handOff e s).2 = true) :
    (handOff e s).1.unasked < s.unasked := by
  have hm := mayRequest_of_handOff h
  have hr : e.reliefRequested = false := by simpa using (Bool.and_eq_true_iff.1 hm).2
  have hu : (handOff e s).1.unasked = (s.markRequested e).unasked := by
    unfold State.unasked
    rw [handOff_queue, if_pos hm]
  have := unasked_markRequested hk he hr
  omega

/-- What a walk that stopped hands on: pairs stay sound, and the claim it stopped at is still queued. -/
theorem passWalk_keeps {e : QueueEntry} (hk : s.KeysSound) (h : passWalk s.adm.queue s = (u, some e)) :
    u.KeysSound ∧ e ∈ u.adm.queue ∧ u.unasked ≤ s.unasked := by
  have hm := keysSound_of_moves (moves_passWalk s.adm.queue s (.refl _)) hk
  obtain ⟨hsub, hmem⟩ := passWalk_queue s.adm.queue s (.refl _)
  rw [h] at hm hsub hmem
  exact ⟨hm, hmem e rfl, hsub.countP_le⟩

/-- The state that the next pass starts from has fewer claims left to ask for (R38, R58). -/
theorem handOff_progress {e : QueueEntry} (hk : s.KeysSound) (h : passWalk s.adm.queue s = (u, some e))
    (hh : (handOff e u).2 = true) : (handOff e u).1.KeysSound ∧ (handOff e u).1.unasked < s.unasked := by
  obtain ⟨hu, he, hle⟩ := passWalk_keeps hk h
  exact ⟨keysSound_of_moves (moves_handOff e) hu, (unasked_handOff_lt hu he hh).trans_le hle⟩

/-- The fuel of a pass is not spent early. -/
theorem admissionPass_fuel (fuel : Nat) : ∀ (fuel' : Nat) (s : State), s.KeysSound → s.unasked < fuel →
    s.unasked < fuel' → admissionPass fuel s = admissionPass fuel' s := by
  induction fuel with
  | zero => exact fun _ _ _ h _ => absurd h (Nat.not_lt_zero _)
  | succ fuel ih =>
    intro fuel' s hk h h'
    obtain ⟨fuel', rfl⟩ := Nat.exists_eq_add_one_of_ne_zero (Nat.ne_zero_of_lt h')
    cases hw : passWalk s.adm.queue s with
    | mk u r =>
    cases r with
    | none => rw [admissionPass_of_none hw, admissionPass_of_none hw]
    | some e =>
      rw [admissionPass_of_some hw, admissionPass_of_some hw]
      split
      · next hh =>
        obtain ⟨hk', hlt⟩ := handOff_progress hk hw hh
        exact ih fuel' _ hk' (by omega) (by omega)
      · rfl

theorem unasked_lt_fuel : s.unasked < s.adm.queue.length + 1 := Nat.lt_succ_of_le List.countP_le_length

theorem runPass_of_none (h : passWalk s.adm.queue s = (u, none)) : runPass s = u := admissionPass_of_none h

/-- R38, R58: a pass that stopped, its hand-off, and the pass that follows where the round withdrew something. -/
theorem runPass_of_some {e : QueueEntry} (hk : s.KeysSound) (h : passWalk s.adm.queue s = (u, some e)) :
    runPass s = if (handOff e u).2 = true then runPass (handOff e u).1 else (handOff e u).1 := by
  refine (admissionPass_of_some h).trans ?_
  split
  · next hh =>
    obtain ⟨hk', hlt⟩ := handOff_progress hk h hh
    exact admissionPass_fuel _ _ _ hk' (hlt.trans_le (Nat.le_of_lt_succ unasked_lt_fuel)) unasked_lt_fuel
  · rfl

/-! ## A pass settles the machine -/

/-- The mark of a hand-off changes no slot and no least. -/
theorem leastsInSteps_handOff (e : QueueEntry) (h : s.LeastsInSteps) : (handOff e s).1.LeastsInSteps := by
  intro x hx
  rw [Kept_policy (kept_handOff e)]
  rw [handOff_queue] at hx
  split at hx
  · rcases mem_of_mem_modifyFirst hx with hx | ⟨y, hy, rfl⟩
    · exact h x hx
    · exact h y (List.mem_of_find?_eq_some hy)
  · exact h x hx

theorem leastsInSteps_passWalk (h : s.LeastsInSteps) : (passWalk s.adm.queue s).1.LeastsInSteps := by
  intro x hx
  rw [Kept_policy (kept_passWalk _ s)]
  exact h x ((passWalk_queue _ s (.refl _)).1.subset hx)

/-- R36 to R39: with leasts in whole steps, a pass leaves nothing for a second one to do. -/
theorem settled_runPass (hk : s.KeysSound) (hd : s.LeastsInSteps) : (runPass s).Settled := by
  induction hn : s.unasked using Nat.strong_induction_on generalizing s with
  | _ n ih =>
    have hstop := passWalk_stopped s.adm.queue [] s rfl hk hd (by simp)
    have hd' := leastsInSteps_passWalk hd
    cases hw : passWalk s.adm.queue s with
    | mk u r =>
    rw [hw] at hstop hd'
    cases r with
    | none =>
      rw [runPass_of_none hw]
      exact settled_of_stopped_none hstop
    | some e =>
      rw [runPass_of_some hk hw]
      split
      · next hh =>
        obtain ⟨hk', hlt⟩ := handOff_progress hk hw hh
        exact ih _ (hn ▸ hlt) hk' (leastsInSteps_handOff e hd') rfl
      · next hh => exact settled_handOff (passWalk_keeps hk hw).1 hstop (by simpa using hh)

/-- Settles O36: a pass follows its walk and hand-off because its fuel outlasts the claims left to mark, and with leasts
in whole steps it ends in a settled state. -/
theorem passWalksAndHandsOff : Obligations.PassWalksAndHandsOff := by
  intro s hq
  have hk := (queueOrdered_iff.1 hq).1
  refine ⟨rfl, ?_, fun hd => runPass_of_settled (settled_runPass hk hd)⟩
  split
  · next walked hw => exact runPass_of_none hw
  · next walked e hw => exact runPass_of_some hk hw

/-! ## The tests of a pass at an entry -/

section Tests

variable {e : QueueEntry}

/-- Test 4 of R36: the limit is the bar. -/
theorem passStep_of_short (hroom : s.adm.contracts.length < contractPlaces) (hfit : ¬ s.skips e)
    (h : s.bud.overcommit = true ∨ s.room < e.least) : s.passStep e = .blocked := by
  have hn : ¬ (s.bud.overcommit = false ∧ e.least ≤ s.room) := by
    rintro ⟨ho, hle⟩
    rcases h with h | h
    · simp [ho] at h
    · omega
  unfold State.passStep
  rw [if_neg (Nat.not_le.2 hroom), if_neg (show ¬ s.ceilingRoom e.slot < e.least from hfit), if_neg hn]

/-- Test 3 of R36, and then R37's figure. -/
theorem passStep_of_room (hroom : s.adm.contracts.length < contractPlaces) (hfit : ¬ s.skips e)
    (h : ¬ (s.bud.overcommit = true ∨ s.room < e.least)) : s.passStep e =
      if e.least ≤ s.offerAmount e.slot e.want then .taken (s.offerAmount e.slot e.want)
      else if roundDown (s.policy e.slot).step (s.ceilingRoom e.slot) < e.least then .passed
      else .blocked := by
  obtain ⟨ho, hle⟩ := not_or.1 h
  unfold State.passStep
  rw [if_neg (Nat.not_le.2 hroom), if_neg (show ¬ s.ceilingRoom e.slot < e.least from hfit),
    if_pos ⟨by simpa using ho, Nat.not_lt.1 hle⟩]

theorem low_code_lt_iff (cls : SlotClass) : SlotClass.low.code < cls.code ↔ cls ≠ .low := by
  cases cls <;> simp [SlotClass.code]

/-- R38: the three conditions of a hand-off. -/
theorem mayRequest_iff : s.mayRequest e = true ↔
    (s.policy e.slot).preempt = true ∧ (s.policy e.slot).cls ≠ .low ∧ e.reliefRequested = false := by
  simp [State.mayRequest, low_code_lt_iff, and_assoc]

end Tests

/-- Settles O37: test by test, and the hand-off by its conditions and the record. -/
theorem passTestsAndHandOff : Obligations.PassTestsAndHandOff := by
  intro s e rest step amount admitted p asks marked request
  have hasks : s.mayRequest e = true ↔ asks := mayRequest_iff
  refine ⟨?_, fun h => ?_, fun h hr => handOff_of_record (hasks.2 h) hr, fun h hr => handOff_of_no_record (hasks.2 h) hr⟩
  · split
    · next hfull => exact passWalk_full (passStep_of_full hfull)
    next hfull =>
    have hroom := Nat.not_le.1 hfull
    split
    · next hskip => exact passWalk_passed (passStep_of_skips hroom hskip)
    next hskip =>
    split
    · next hshort => exact passWalk_blocked (passStep_of_short hroom hskip hshort)
    next hshort =>
    have hstep := passStep_of_room hroom hskip hshort
    split
    · next hfits => exact passWalk_taken (hstep.trans (if_pos hfits))
    next hfits =>
    replace hstep := hstep.trans (if_neg hfits)
    split
    · next hceil => exact passWalk_passed (hstep.trans (if_pos hceil))
    · next hceil => exact passWalk_blocked (hstep.trans (if_neg hceil))
  · exact handOff_of_silent (by simpa using mt hasks.1 h)

/-! ## Claims that wait -/

section Waiting

variable {i : Slot} {g : Byte} {want least : Nat}

theorem isOf_of_tagInUse (h : s.tagInUse i g = false) : ∀ x ∈ s.adm.queue, x.isOf i g = false := by
  simp only [State.tagInUse, Bool.or_eq_false_iff, List.any_eq_false, Bool.not_eq_true] at h
  exact h.2

/-- R8: a claim that passes its checks and does not fit goes to the queue with its rounded figures. -/
theorem takeClaim_queued (hp : s.claimPasses i g want least) (hf : ¬ s.claimFits i least) :
    takeClaim i g want least (s.onHearing i) =
      (s.onHearing i).queueClaim i g (roundWant (s.policy i).step want) (roundUp (s.policy i).step least) := by
  unfold takeClaim
  rw [claimRefusal_of_claimPasses hp]
  exact if_neg (mt offersNow_iff.1 hf)

theorem queueClaim_of_room (h : s.adm.queue.length < queuePlaces) :
    s.queueClaim i g want least = s.placeClaim i g want least := if_pos h

theorem queueClaim_displaces {last : QueueEntry} (h : queuePlaces ≤ s.adm.queue.length)
    (hlast : s.adm.queue.getLast? = some last) (hcls : s.entryClass last < (s.policy i).cls.code) :
    s.queueClaim i g want least =
      runPass (((s.leaveQueue last.slot last.tag).refuse last.slot last.tag .displaced).placeClaim i g want least) := by
  unfold State.queueClaim
  rw [if_neg (Nat.not_lt.2 h), hlast]
  exact if_pos hcls

theorem queueClaim_full {last : QueueEntry} (h : queuePlaces ≤ s.adm.queue.length)
    (hlast : s.adm.queue.getLast? = some last) (hcls : ¬ s.entryClass last < (s.policy i).cls.code) :
    s.queueClaim i g want least = s.refuse i g .queueFull := by
  unfold State.queueClaim
  rw [if_neg (Nat.not_lt.2 h), hlast]
  exact if_neg hcls

end Waiting

/-- Settles O16. -/
theorem claimThatWaitsIsQueued : Obligations.ClaimThatWaitsIsQueued := by
  intro s i g want least cls ha hp hf hroom
  obtain ⟨hpresent, -, -, htag, -⟩ := id hp
  rw [exec_claim (hands_of_present ha hpresent), takeClaim_queued hp hf, queueClaim_of_room (s := s.onHearing i) hroom]
  refine congrArg _ ((placeClaim_eq (s := s.onHearing i) rfl (isOf_of_tagInUse htag)).trans ?_)
  rw [← onHearing_reply]
  rfl

/-- Settles O17: the displaced entry's pair is not the claim's, so the claim is placed as in a queue with room. -/
theorem claimAtFullQueue : Obligations.ClaimAtFullQueue := by
  intro s i g want least last cls queue ha hp hf hfull hlast
  obtain ⟨hpresent, -, -, htag, -⟩ := id hp
  rw [exec_claim (hands_of_present ha hpresent), takeClaim_queued hp hf]
  split
  · next hcls =>
    rw [queueClaim_displaces (s := s.onHearing i) hfull hlast hcls]
    have hnew : ∀ x ∈ queue, x.isOf i g = false := fun x hx => isOf_of_tagInUse htag x (List.eraseP_subset hx)
    exact congrArg (fun u => Host.Outcome.next (runPass u)) (placeClaim_eq
      (s := ((s.onHearing i).leaveQueue last.slot last.tag).refuse last.slot last.tag .displaced) rfl hnew)
  · next hcls => rw [queueClaim_full (s := s.onHearing i) hfull hlast hcls, onHearing_refuse]

/-! ## The stages of a commit -/

/-- The entries in arrival order are the entries of the queue (R28). -/
theorem arrivals_perm (h : s.KeysSound) : s.arrivals.Perm s.adm.queue := by
  have hkeys := map_key_arrivals h
  have hn : s.arrivals.Nodup := List.Nodup.of_map QueueEntry.key (by rw [hkeys]; exact h.arrival_nodup)
  refine (List.perm_ext_iff_of_nodup hn (.of_map _ h.queue_nodup)).2 fun e => ⟨fun he => ?_, fun he => ?_⟩
  · obtain ⟨k, -, hk⟩ := List.mem_filterMap.1 he
    exact List.mem_of_find?_eq_some hk
  · exact List.mem_filterMap.2 ⟨e.key, h.2.mem_iff.2 (List.mem_map_of_mem he), claim?_of_mem h he⟩

/-- A rebuilding reads the entries in arrival order and the classes alone. -/
theorem rebuildQueue_congr (ha : t.arrivals = s.arrivals) (hp : t.pol.active = s.pol.active) :
    t.rebuildQueue.adm.queue = s.rebuildQueue.adm.queue := by
  show t.arrivals.foldl (fun sorted e => t.insertEntry e sorted) [] = s.arrivals.foldl _ []
  simp only [insertEntry_congr hp, ha]

/-- R40: the queue is rebuilt from its own entries, in service order; no contract is looked at. -/
theorem rebuildQueue_sorted (hn : (s.adm.queue.map QueueEntry.key).Nodup)
    (hp : s.adm.arrival.Perm (s.adm.queue.map QueueEntry.key)) :
    s.rebuildQueue.adm.queue.Perm s.adm.queue
      ∧ s.rebuildQueue.adm.queue.Pairwise fun a b => s.servedBefore a b = true := by
  have hk : ({ s with adm.contracts := [] } : State).KeysSound := ⟨hn, hp⟩
  obtain ⟨hperm, hsorted⟩ := rebuildQueue_spec hk
  have hordered := queueOrdered_iff.2 ⟨keysSound_rebuildQueue hk, hsorted⟩
  rw [← rebuildQueue_congr (s := s) (t := { s with adm.contracts := [] }) rfl rfl]
  exact ⟨hperm.trans (arrivals_perm hk), hordered.2.2⟩

/-! ### The table against the new ceilings -/

section Ceiling

variable {c : Contract}

theorem checkCeiling_within (h : ¬ ((s.port c.slot).state = .present ∧ (s.policy c.slot).ceiling < c.amount)) :
    checkCeiling c s = s := if_neg h

theorem checkCeiling_offered {d : Time} (h : (s.port c.slot).state = .present ∧ (s.policy c.slot).ceiling < c.amount)
    (hst : c.state = .offered d) :
    checkCeiling c s = (s.removeContract c.slot c.tag).order c.slot (.closed c.tag .policy) := by
  simp [checkCeiling, h, hst]

theorem checkCeiling_held {gr : Grant} (h : (s.port c.slot).state = .present ∧ (s.policy c.slot).ceiling < c.amount)
    (hst : c.state = .held gr) :
    checkCeiling c s = s.issueShed c.slot c.tag (commitTarget (s.policy c.slot)) false := by
  simp [checkCeiling, h, hst]

theorem checkCeiling_shedding {gr : Grant} {sh : Shed} (hst : c.state = .shedding gr sh) : checkCeiling c s = s := by
  simp [checkCeiling, hst]

/-- An OFFERED contract of a PRESENT slot leaves the table: it had no relief, and the enable output says who else holds
a grant (R22, R103). -/
theorem removeContract_offered {d : Time} (hc : s.contract? c.slot c.tag = some c) (hst : c.state = .offered d)
    (hp : (s.port c.slot).state = .present) : s.removeContract c.slot c.tag =
      { s with
        adm.contracts := s.adm.contracts.eraseP (Contract.isOf c.slot c.tag)
        adm.committed := s.adm.committed - c.amount
        ports := s.ports.set c.slot
          { s.port c.slot with
            enable := (s.adm.contracts.eraseP (Contract.isOf c.slot c.tag)).any fun x => x.slot == c.slot && x.granted } } := by
  have hremove : s.removeContract c.slot c.tag = (s.dropped c.slot c.tag c).evalEnable c.slot := by
    simp only [State.removeContract, hc]
    rfl
  have hrelief : c.relief = 0 := by simp [Contract.relief, hst]
  rw [hremove, evalEnable_eq, enableValue_of_present (s := s.dropped c.slot c.tag c) hp, State.dropped, hrelief,
    Nat.sub_zero]
  rfl

/-- A HELD contract's shed, with its own grant written out (R62). -/
theorem issueShed_held {i : Slot} {g : Byte} {gr : Grant} {target : Nat} {forced : Bool}
    (hc : s.contract? i g = some c) (hst : c.state = .held gr) : s.issueShed i g target forced =
      ({ s with
        adm.contracts := modifyFirst (Contract.isOf i g)
          (fun c => { c with state := .shedding gr ⟨target, s.now + (s.policy i).shedWindow, forced⟩ }) s.adm.contracts
        eng.pledged := s.eng.pledged + (c.amount - target) } : State).order i
          (.shed g target (s.policy i).shedWindow) := by
  have hcontracts : modifyFirst (Contract.isOf i g)
        (Contract.shedTo target (s.now + (s.policy i).shedWindow) forced) s.adm.contracts =
      modifyFirst (Contract.isOf i g)
        (fun c => { c with state := .shedding gr ⟨target, s.now + (s.policy i).shedWindow, forced⟩ }) s.adm.contracts := by
    refine modifyFirst_congr fun d hd => ?_
    obtain rfl : c = d := Option.some.inj (hc.symm.trans hd)
    simp [Contract.shedTo, hst]
  rw [← hcontracts]
  unfold State.issueShed
  rw [hc]
  exact if_pos (isHeld_iff.2 ⟨gr, hst⟩)

end Ceiling

/-- An executed command whose run is known (R129). -/
theorem takeCommand_settled {q : Byte} {run : State → State × Settle} {outcome : Settle} (h : s.executes q)
    (hr : run s.onSupply = (u, outcome)) : takeCommand q run s = u.settled q outcome := by
  rw [takeCommand_of_executes h, hr]
  rfl

theorem runCommit_of_dirty (h : s.pol.dirty = true) : runCommit s = acked (commitStages s) := if_pos h
theorem runCommit_of_clean (h : ¬ s.pol.dirty = true) : runCommit s = acked s := if_neg h

/-- Settles O47: the rebuilding from its own entries, a contract by its state, a claim, and the stages in order. -/
theorem commitRunsItsStages : Obligations.CommitRunsItsStages := by
  refine ⟨fun s => rebuildQueue_sorted, ?_, fun s e => rfl, ?_⟩
  · intro s c hc p rest target
    split
    · next habove =>
      split
      · next d hst => rw [checkCeiling_offered habove hst, removeContract_offered hc hst habove.1]
      · next gr hst =>
        rw [checkCeiling_held habove hst, issueShed_held hc hst]
        rfl
      · next gr sh hst => exact checkCeiling_shedding hst
    · next hwithin => exact checkCeiling_within hwithin
  · intro s q h swapped aligned checked queued
    have hexec : exec (.commit q) s = .next (takeCommand q runCommit s) := rfl
    have hstages : commitStages s.onSupply = budgetRound .normal (runPass (evalFlags queued)) := rfl
    rw [hexec]
    split
    · next hd =>
      rw [← hstages]
      exact congrArg _ (takeCommand_settled h (runCommit_of_dirty (s := s.onSupply) hd))
    · next hd => exact congrArg _ (takeCommand_settled h (runCommit_of_clean (s := s.onSupply) hd))

end Sys2Proof.Machine

/-!
# The budget and the admission limit

The Budget Monitor's figures agree with their inputs after every step. What a command changes before the flags are
worked out again is `Unflagged`; the flags' re-evaluation makes it `Budgeted` again, and every other change is `Level`,
so that no flag and no figure is touched. After that come the flags, the BUDGET frame and the stale deadline, the
configuration items, the completions of the Profile Store, and the end of the start-up scan.
-/

namespace Sys2Proof.Machine

-- The theorems are checked one after another: side by side, each would hold a thread of its own while it waits.
set_option Elab.async false

open Config

variable {s t u : State}

/-! ## The flags (R52, R54) -/

theorem overcommit_unchanged {b : Bool} (h : s.bud.overcommit = b) : { s with bud.overcommit := b } = s := by
  subst h; rfl

theorem watermark_unchanged {b : Bool} (h : s.bud.watermark = b) : { s with bud.watermark := b } = s := by
  subst h; rfl

/-- R52: the overcommit flag takes its test's value, and its event is raised where that is a change. -/
theorem evalOvercommit_eq (s : State) : evalOvercommit s =
    if decide (s.bud.limit < s.adm.committed) = s.bud.overcommit then
      { s with bud.overcommit := decide (s.bud.limit < s.adm.committed) }
    else if s.bud.limit < s.adm.committed then
      ({ s with bud.overcommit := decide (s.bud.limit < s.adm.committed) } : State).raise .overcommit none
        (min (s.adm.committed - s.bud.limit) maxCount)
    else
      ({ s with bud.overcommit := decide (s.bud.limit < s.adm.committed) } : State).raise .overcommitCleared none
        s.adm.committed := by
  unfold evalOvercommit
  by_cases hexceeds : s.bud.limit < s.adm.committed <;> cases hflag : s.bud.overcommit
  case pos.false => simp [hexceeds]
  case pos.true => simp [hexceeds, overcommit_unchanged hflag]
  case neg.false => simp [hexceeds, overcommit_unchanged hflag]
  case neg.true => simp [hexceeds]

/-- R54: the watermark flag takes the value of its tests, and its event is raised where that is a change. -/
theorem evalWatermark_eq (s : State) : evalWatermark s =
    if watermarkValue s.bud s.adm.committed = s.bud.watermark then
      { s with bud.watermark := watermarkValue s.bud s.adm.committed }
    else
      ({ s with bud.watermark := watermarkValue s.bud s.adm.committed } : State).raise
        (if watermarkValue s.bud s.adm.committed = true then .watermark else .watermarkCleared) none
        s.adm.committed := by
  unfold evalWatermark
  cases hvalue : watermarkValue s.bud s.adm.committed <;> cases hflag : s.bud.watermark
  case false.false => simp [watermark_unchanged hflag]
  case true.true => simp [watermark_unchanged hflag]
  case false.true => simp
  case true.false => simp

theorem evalOvercommit_bud (s : State) :
    (evalOvercommit s).bud = { s.bud with overcommit := decide (s.bud.limit < s.adm.committed) } := by
  rw [evalOvercommit_eq]
  (repeat' split) <;> rfl

theorem evalOvercommit_adm (s : State) : (evalOvercommit s).adm = s.adm := by
  rw [evalOvercommit_eq]
  (repeat' split) <;> rfl

theorem evalWatermark_adm (s : State) : (evalWatermark s).adm = s.adm := by
  rw [evalWatermark_eq]
  split <;> rfl

theorem evalWatermark_bud (s : State) :
    (evalWatermark s).bud = { s.bud with watermark := watermarkValue s.bud s.adm.committed } := by
  rw [evalWatermark_eq]
  split <;> rfl

/-- Both flags after their re-evaluation: each has the value of its tests on the figures as they are. -/
theorem evalFlags_bud (s : State) : (evalFlags s).bud =
    { s.bud with
      overcommit := decide (s.bud.limit < s.adm.committed)
      watermark := watermarkValue s.bud s.adm.committed } := by
  unfold evalFlags
  rw [evalWatermark_bud, evalOvercommit_bud, evalOvercommit_adm]
  rfl

/-- R54: a flag that has taken the value of its tests keeps it under them. -/
theorem watermarkValue_idem (b : BudgetMonitor) (overcommit : Bool) (committed : Nat) :
    watermarkValue { b with overcommit := overcommit, watermark := watermarkValue b committed } committed =
      watermarkValue b committed := by
  unfold watermarkValue
  dsimp only
  split
  · rfl
  · split
    · rfl
    · rfl

/-- Settles O32: each flag's evaluation as one equation, the overcommit flag's before the watermark flag's. -/
theorem flagsFollowTheFigures : Obligations.FlagsFollowTheFigures := by
  intro s committed exceeds mark overEvent first₀ first second
  have hfirst : evalOvercommit s = first := by
    rw [evalOvercommit_eq]
    by_cases hexceeds : s.bud.limit < s.adm.committed <;>
      simp [first, first₀, overEvent, exceeds, committed, hexceeds, maxCount]
  have hmark : watermarkValue first.bud first.adm.committed = mark := by
    rw [← hfirst, evalOvercommit_bud, evalOvercommit_adm]
    rfl
  have hflag : first.bud.watermark = s.bud.watermark := by rw [← hfirst, evalOvercommit_bud]
  have hcommitted : first.adm.committed = committed := by rw [← hfirst, evalOvercommit_adm]
  show evalWatermark (evalOvercommit s) = _
  rw [hfirst, evalWatermark_eq, hmark, hflag, hcommitted]

/-! ## The figures (R49, R53) -/

/-- R44, R49, R53: the effective budget, the limit and the marks are as worked out from their inputs. -/
def State.FiguresAgree (s : State) : Prop :=
  s.bud.effective = min s.pol.items.budgetCap (baseFigure s.bud s.pol.items)
    ∧ s.bud.limit = s.bud.effective - s.pol.items.reserve
    ∧ s.bud.highMark = s.bud.limit * s.pol.items.highMark / 100
    ∧ s.bud.lowMark = s.bud.limit * s.pol.items.lowMark / 100

/-- What every command keeps: the budget agrees with its inputs, and BUDGET_CAP is in its range (R122), so that no
limit worked out from it exceeds 65535. -/
structure State.Budgeted (s : State) : Prop where
  agrees : s.BudgetAgrees
  cap : s.pol.items.budgetCap ≤ maxCount

theorem cap_of_valid {items : LiveItems} (h : items.valid = true) : items.budgetCap ≤ maxCount := by
  simp only [LiveItems.valid, ConfigItem.inRange, Bool.and_eq_true, decide_eq_true_eq] at h
  show items.budgetCap ≤ 65535
  omega

theorem cap_of_tablesValid (h : s.TablesValid) : s.pol.items.budgetCap ≤ maxCount := by
  obtain ⟨-, -, hitems, -⟩ := h
  exact cap_of_valid hitems

/-- R116, R122: the items of an image that a VALID page holds are valid. -/
theorem cap_of_page {p : Slot} {img : Image} (h : (s.page p).sound = true) (hp : s.page p = .valid img) :
    img.items.budgetCap ≤ maxCount := by
  simp only [hp, Page.sound, Image.sound, Bool.and_eq_true] at h
  obtain ⟨⟨-, hitems⟩, -⟩ := h
  exact cap_of_valid hitems

/-- A change beside the budget: no figure, no flag and no input of either changes. -/
structure State.Level (s t : State) : Prop where
  part : t.part = s.part
  items : t.pol.items = s.pol.items
  bud : t.bud = s.bud
  committed : t.adm.committed = s.adm.committed

/-- A change before the flags are worked out again: the figures are as they were, and committed power has not risen
above where it was and the limit. -/
structure State.Unflagged (s t : State) : Prop where
  part : t.part = s.part
  items : t.pol.items = s.pol.items
  bud : t.bud = s.bud
  committed : t.adm.committed ≤ max s.adm.committed s.bud.limit

theorem State.Level.unflagged (h : s.Level t) : s.Unflagged t :=
  ⟨h.part, h.items, h.bud, h.committed ▸ le_max_left _ _⟩

theorem State.Unflagged.refl (s : State) : s.Unflagged s := ⟨rfl, rfl, rfl, le_max_left _ _⟩

theorem State.Unflagged.trans (h : s.Unflagged t) (k : t.Unflagged u) : s.Unflagged u := by
  refine ⟨k.part.trans h.part, k.items.trans h.items, k.bud.trans h.bud, ?_⟩
  have := h.committed
  have := k.committed
  rw [h.bud] at this
  omega

/-- A change that leaves committed power where it is or lowers it. -/
theorem unflagged_of_le (hcommitted : t.adm.committed ≤ s.adm.committed) (hpart : t.part = s.part := by rfl)
    (hitems : t.pol.items = s.pol.items := by rfl) (hbud : t.bud = s.bud := by rfl) : s.Unflagged t :=
  ⟨hpart, hitems, hbud, le_max_of_le_left hcommitted⟩

theorem unflagged_foldl {α : Type} {f : State → α → State} (h : ∀ (u : State) (a : α), u.Unflagged (f u a))
    (l : List α) : ∀ s : State, s.Unflagged (l.foldl f s) := by
  induction l with
  | nil => exact fun s => .refl s
  | cons a r ih => exact fun s => (h s a).trans (ih _)

theorem State.Budgeted.level (h : s.Budgeted) (hl : s.Level t := by exact ⟨rfl, rfl, rfl, rfl⟩) : t.Budgeted := by
  obtain ⟨hagrees, hcap⟩ := h
  refine ⟨?_, hl.items ▸ hcap⟩
  unfold State.BudgetAgrees
  rw [hl.part, hl.items, hl.bud, hl.committed]
  exact hagrees

/-- Whatever the flags were, their re-evaluation makes them agree with figures that agree (R52, R54). -/
theorem budgeted_of_figures (hfigures : s.part = .running → s.FiguresAgree) (hlimit : s.bud.limit ≤ maxCount)
    (hcommitted : s.adm.committed ≤ maxCount) (hcap : s.pol.items.budgetCap ≤ maxCount) :
    (evalFlags s).Budgeted := by
  refine ⟨?_, by rwa [evalFlags_pol]⟩
  unfold State.BudgetAgrees
  rw [evalFlags_bud, evalFlags_adm, evalFlags_pol, kept_evalFlags.part]
  exact ⟨hfigures, rfl, (watermarkValue_idem _ _ _).symm, hlimit, hcommitted⟩

/-- The flags worked out again after a change of committed power (R52, R54). -/
theorem State.Budgeted.evalFlags (h : s.Budgeted) (hu : s.Unflagged t) : (evalFlags t).Budgeted := by
  obtain ⟨⟨hfigures, -, -, hlimit, hcommitted⟩, hcap⟩ := h
  refine budgeted_of_figures ?_ (hu.bud ▸ hlimit) ?_ (hu.items ▸ hcap)
  · unfold State.FiguresAgree
    rw [hu.part, hu.items, hu.bud]
    exact hfigures
  · have := hu.committed
    omega

theorem workOut_limit_le {b : BudgetMonitor} {items : LiveItems} (hcap : items.budgetCap ≤ maxCount) :
    (workOut b items).limit ≤ maxCount := by
  show min items.budgetCap (baseFigure b items) - items.reserve ≤ maxCount
  omega

/-- R49, R53: the figures worked out afresh, from whatever inputs. -/
theorem budgeted_recompute (hcap : s.pol.items.budgetCap ≤ maxCount) (hcommitted : s.adm.committed ≤ maxCount) :
    (recompute s).Budgeted :=
  budgeted_of_figures (fun _ => ⟨rfl, rfl, rfl, rfl⟩) (workOut_limit_le hcap) hcommitted hcap

theorem State.Budgeted.committed_le (h : s.Budgeted) : s.adm.committed ≤ maxCount := by
  obtain ⟨-, -, -, -, hcommitted⟩ := h.agrees
  exact hcommitted

/-! ## The shared operations -/

theorem level_onPort (i : Slot) (f : SlotPort → SlotPort) : s.Level (s.onPort i f) := ⟨rfl, rfl, rfl, rfl⟩
theorem level_reply (i : Slot) (r : Reply) : s.Level (s.reply i r) := ⟨rfl, rfl, rfl, rfl⟩
theorem level_order (i : Slot) (o : Order) : s.Level (s.order i o) := ⟨rfl, rfl, rfl, rfl⟩
theorem level_raise (k : EventKind) (o : Option Origin) (d : Nat) : s.Level (s.raise k o d) := ⟨rfl, rfl, rfl, rfl⟩
theorem level_leaveQueue (i : Slot) (g : Byte) : s.Level (s.leaveQueue i g) := ⟨rfl, rfl, rfl, rfl⟩
theorem level_proofOfLife (i : Slot) : s.Level (s.proofOfLife i) := ⟨rfl, rfl, rfl, rfl⟩
theorem level_declare (i : Slot) (d : Declared) : s.Level (s.declare i d) := ⟨rfl, rfl, rfl, rfl⟩
theorem level_emptyQueues (i : Slot) : s.Level (s.emptyQueues i) := ⟨rfl, rfl, rfl, rfl⟩
theorem level_rebuildQueue : s.Level s.rebuildQueue := ⟨rfl, rfl, rfl, rfl⟩

theorem level_disable (i : Slot) : s.Level (s.disable i) := ⟨rfl, rfl, rfl, rfl⟩

theorem level_enterKnown (i : Slot) (x : SlotState) (k : EventKind) : s.Level (s.enterKnown i x k) :=
  ⟨rfl, rfl, rfl, rfl⟩

theorem level_enterVacant (i : Slot) (probe : Option Time) : s.Level (s.enterVacant i probe) := ⟨rfl, rfl, rfl, rfl⟩

theorem unflagged_removeContract (i : Slot) (g : Byte) : s.Unflagged (s.removeContract i g) := by
  unfold State.removeContract
  split
  · exact .refl s
  · exact unflagged_of_le (Nat.sub_le _ _)

theorem unflagged_removeSlot (i : Slot) : s.Unflagged (s.removeSlot i) := unflagged_of_le (Nat.sub_le _ _)

theorem level_issueShed (i : Slot) (g : Byte) (target : Nat) (forced : Bool) :
    s.Level (s.issueShed i g target forced) := by
  unfold State.issueShed
  (repeat' split) <;> exact ⟨rfl, rfl, rfl, rfl⟩

theorem budgeted_closeContract (h : s.Budgeted) (i : Slot) (g : Byte) : (s.closeContract i g).Budgeted :=
  h.evalFlags (unflagged_removeContract i g)

theorem budgeted_withdraw (h : s.Budgeted) (i : Slot) (g : Byte) : (s.withdraw i g).Budgeted :=
  (budgeted_closeContract h i g).level (level_order i _)

theorem budgeted_teardown (h : s.Budgeted) (i : Slot) : (s.teardown i).Budgeted := h.evalFlags (unflagged_removeSlot i)

/-- R44: power committed within room stays within the limit, or where it was. -/
theorem committed_add_le {amount : Nat} (h : amount ≤ s.room) :
    s.adm.committed + amount ≤ max s.adm.committed s.bud.limit := by
  unfold State.room at h
  omega

theorem offerAmount_le_room (i : Slot) (want : Nat) : s.offerAmount i want ≤ s.room :=
  (min_le_right _ _).trans ((roundDown_le _ _).trans (min_le_left _ _))

theorem budgeted_createOffer (h : s.Budgeted) {i : Slot} {g : Byte} {amount : Nat} (hroom : amount ≤ s.room) :
    (s.createOffer i g amount).Budgeted := by
  rw [createOffer_eq]
  have hoffered : s.Unflagged (s.offered i g amount (s.now + s.pol.items.acceptWindow)) :=
    ⟨rfl, rfl, rfl, committed_add_le hroom⟩
  exact (h.evalFlags hoffered).level (level_order i _)

theorem budgeted_cut (h : s.Budgeted) (i : Slot) (reason : CutReason) : (s.cut i reason).Budgeted := by
  unfold State.cut
  split
  · have htorn := budgeted_teardown (h.level (t := s.deassert i)) i
    exact ((htorn.level (level_order i _)).level (level_onPort i _)).level (level_raise _ _ _)
  · exact h

/-! ## Rounds and passes -/

theorem budgeted_preemptWithdraw (bound fuel : Nat) :
    ∀ (need : Nat) (s : State), s.Budgeted → (preemptWithdraw bound fuel need s).1.Budgeted := by
  induction fuel with
  | zero => exact fun _ _ h => h
  | succ fuel ih =>
    intro need s h
    unfold preemptWithdraw
    split
    · exact h
    · split
      · exact h
      · exact ih _ _ (budgeted_withdraw h _ _)

theorem budgeted_preemptShed (bound fuel : Nat) :
    ∀ (need : Nat) (s : State), s.Budgeted → (preemptShed bound fuel need s).Budgeted := by
  induction fuel with
  | zero => exact fun _ _ h => h
  | succ fuel ih =>
    intro need s h
    unfold preemptShed
    split
    · exact h
    · split
      · exact h
      · exact ih _ _ (h.level (level_issueShed _ _ _ _))

theorem budgeted_preemptRound (h : s.Budgeted) (r : PreemptRecord) : (preemptRound r s).1.Budgeted :=
  budgeted_preemptShed _ _ _ _ (budgeted_preemptWithdraw _ _ _ _ h)

theorem taken_le_room {e : QueueEntry} {amount : Nat} (h : s.passStep e = .taken amount) : amount ≤ s.room := by
  obtain rfl : s.offerAmount e.slot e.want = amount := by
    unfold State.passStep at h
    (repeat' split at h) <;> simp_all
  exact offerAmount_le_room _ _

theorem budgeted_passWalk (l : List QueueEntry) : ∀ s : State, s.Budgeted → (passWalk l s).1.Budgeted := by
  induction l with
  | nil => exact fun _ h => h
  | cons e rest ih =>
    intro s h
    unfold passWalk
    cases hstep : s.passStep e with
    | full => exact h
    | passed => exact ih s h
    | taken amount =>
      exact ih _ (budgeted_createOffer (h.level (level_leaveQueue e.slot e.tag)) (taken_le_room hstep))
    | blocked => exact h

theorem budgeted_handOff (h : s.Budgeted) (e : QueueEntry) : (handOff e s).1.Budgeted := by
  unfold handOff
  split
  · split
    · exact h.level
    · exact budgeted_preemptRound h.level _
  · exact h

theorem budgeted_admissionPass (fuel : Nat) : ∀ s : State, s.Budgeted → (admissionPass fuel s).Budgeted := by
  induction fuel with
  | zero => exact fun _ h => h
  | succ fuel ih =>
    intro s h
    have hwalk := budgeted_passWalk s.adm.queue s h
    unfold admissionPass
    split
    · next v hw => rwa [hw] at hwalk
    · next v e hw =>
      rw [hw] at hwalk
      have hhand := budgeted_handOff hwalk e
      split
      · next x hx =>
        rw [hx] at hhand
        exact ih x hhand
      · next x hx =>
        rw [hx] at hhand
        exact hhand

theorem budgeted_runPass (h : s.Budgeted) : (runPass s).Budgeted := budgeted_admissionPass _ s h

theorem budgeted_budgetWithdraw (fuel : Nat) : ∀ s : State, s.Budgeted → (budgetWithdraw fuel s).1.Budgeted := by
  induction fuel with
  | zero => exact fun _ h => h
  | succ fuel ih =>
    intro s h
    unfold budgetWithdraw
    split
    · exact h
    · split
      · exact h
      · exact ih _ (budgeted_withdraw h _ _)

theorem budgeted_budgetShed (fuel : Nat) : ∀ s : State, s.Budgeted → (budgetShed fuel s).Budgeted := by
  induction fuel with
  | zero => exact fun _ h => h
  | succ fuel ih =>
    intro s h
    unfold budgetShed
    split
    · exact h
    · split
      · exact h
      · exact ih _ (h.level (level_issueShed _ _ _ _))

theorem budgeted_budgetCut (fuel : Nat) : ∀ s : State, s.Budgeted → (budgetCut fuel s).1.Budgeted := by
  induction fuel with
  | zero => exact fun _ h => h
  | succ fuel ih =>
    intro s h
    unfold budgetCut
    split
    · exact h
    · split
      · exact h
      · exact ih _ (budgeted_cut h _ _)

theorem budgeted_budgetActs (h : s.Budgeted) (urgency : Urgency) : (budgetActs urgency s).1.Budgeted := by
  have hw := budgeted_budgetWithdraw s.adm.contracts.length s h
  cases urgency with
  | normal => exact budgeted_budgetShed _ _ hw
  | immediate => exact budgeted_budgetCut _ _ hw

theorem budgeted_budgetRound (h : s.Budgeted) (urgency : Urgency) : (budgetRound urgency s).Budgeted := by
  unfold budgetRound
  dsimp only
  split
  · exact budgeted_runPass (budgeted_budgetActs h urgency)
  · exact budgeted_budgetActs h urgency

theorem budgeted_recheckIf (h : s.Budgeted) (called : Bool) : (recheckIf called s).Budgeted := by
  unfold recheckIf
  split
  · exact budgeted_budgetRound h .normal
  · exact h

theorem budgeted_afterClose (h : s.Budgeted) (wasShedding : Bool) : (afterClose wasShedding s).Budgeted :=
  budgeted_recheckIf (budgeted_runPass h) wasShedding

theorem budgeted_tearAndFollow (h : s.Budgeted) (i : Slot) : (tearAndFollow i s).Budgeted := by
  unfold tearAndFollow
  split
  · exact budgeted_teardown h i
  · exact budgeted_afterClose (budgeted_teardown h i) _

theorem budgeted_cutAndFollow (h : s.Budgeted) (i : Slot) (reason : CutReason) :
    (cutAndFollow i reason s).Budgeted := by
  unfold cutAndFollow
  split
  · exact budgeted_afterClose (budgeted_cut h i reason) _
  · exact budgeted_cut h i reason

theorem budgeted_requestOnChange (h : s.Budgeted) (before : Nat) (urgency : Urgency) :
    (requestOnChange before urgency s).Budgeted := by
  unfold requestOnChange
  split
  · exact budgeted_budgetRound h urgency
  · split
    · exact budgeted_runPass h
    · exact h

theorem budgeted_requestOnConfig (h : s.Budgeted) (before : Nat) : (requestOnConfig before s).Budgeted := by
  unfold requestOnConfig
  split
  · exact budgeted_budgetRound (budgeted_runPass h) .normal
  · exact budgeted_budgetRound h .normal

/-! ## The power frames -/

theorem budgeted_queueClaim (h : s.Budgeted) (i : Slot) (g : Byte) (want least : Nat) :
    (s.queueClaim i g want least).Budgeted := by
  unfold State.queueClaim
  split
  · exact h.level
  · split
    · exact h.level
    · split
      · exact budgeted_runPass h.level
      · exact h.level

theorem budgeted_takeClaim (h : s.Budgeted) (i : Slot) (g : Byte) (want least : Nat) :
    (takeClaim i g want least s).Budgeted := by
  unfold takeClaim
  split
  · exact h.level
  · dsimp only
    split
    · exact budgeted_createOffer h (offerAmount_le_room _ _)
    · exact budgeted_queueClaim h _ _ _ _

theorem budgeted_takeAccept (h : s.Budgeted) (i : Slot) (g : Byte) : (takeAccept i g s).Budgeted := by
  unfold takeAccept
  (repeat' split) <;> exact h.level

theorem budgeted_takeDecline (h : s.Budgeted) (i : Slot) (g : Byte) : (takeDecline i g s).Budgeted := by
  unfold takeDecline
  split
  · exact h.level
  · split
    · exact budgeted_runPass ((budgeted_closeContract h i g).level (level_reply i _))
    · exact h.level

theorem budgeted_takeRelease (h : s.Budgeted) (i : Slot) (g : Byte) : (takeRelease i g s).Budgeted := by
  unfold takeRelease
  split
  · exact budgeted_afterClose ((budgeted_closeContract h i g).level (level_reply i _)) _
  · split
    · exact budgeted_runPass h.level
    · exact h.level

theorem budgeted_comply (h : s.Budgeted) (i : Slot) (g : Byte) (c : Contract) (amount : Nat) :
    (s.comply i g c amount).Budgeted := by
  have hlowered : s.Unflagged { s.onContract i g (Contract.complied amount) with
      adm.committed := s.adm.committed - (c.amount - amount) } := unflagged_of_le (Nat.sub_le _ _)
  exact (h.evalFlags hlowered).level

/-- R16, R17: an ADJUST lowers committed power, or raises it within room. -/
theorem budgeted_adjustHeld (h : s.Budgeted) (i : Slot) (g : Byte) (c : Contract) (amount : Nat) :
    (adjustHeld i g c amount s).Budgeted := by
  unfold adjustHeld
  split
  · exact h.level
  · split
    · exact h.level
    · split
      · have hlowered : s.Unflagged { s.onContract i g (Contract.withAmount amount) with
            adm.committed := s.adm.committed - (c.amount - amount) } := unflagged_of_le (Nat.sub_le _ _)
        exact budgeted_runPass ((h.evalFlags hlowered).level (level_reply i _))
      · split
        · exact h.level
        · next hbars =>
          have hroom : amount - c.amount ≤ s.room := by
            simp only [not_or, not_lt] at hbars
            exact hbars.2.2
          have hraised : s.Unflagged { s.onContract i g (Contract.withAmount amount) with
              adm.committed := s.adm.committed + (amount - c.amount) } := ⟨rfl, rfl, rfl, committed_add_le hroom⟩
          exact (h.evalFlags hraised).level (level_reply i _)

theorem budgeted_takeAdjust (h : s.Budgeted) (i : Slot) (g : Byte) (asked : Nat) :
    (takeAdjust i g asked s).Budgeted := by
  unfold takeAdjust
  split
  · exact h.level
  · dsimp only
    split
    · exact h.level
    · split
      · exact h.level
      · exact budgeted_adjustHeld h _ _ _ _
    · split
      · exact h.level
      · split
        · exact budgeted_afterClose ((budgeted_comply h i g _ _).level (level_reply i _)) true
        · exact h.level

theorem budgeted_takeRenew (h : s.Budgeted) (i : Slot) (g : Byte) : (takeRenew i g s).Budgeted := by
  unfold takeRenew
  (repeat' split) <;> exact h.level

theorem budgeted_violate (h : s.Budgeted) (i : Slot) (reason : CutReason) (detail : Nat) :
    (violate i reason detail s).Budgeted := by
  unfold violate
  dsimp only
  split
  · exact h.level
  · exact budgeted_cutAndFollow h.level i reason

theorem budgeted_judgeReport (h : s.Budgeted) (i : Slot) (g : Byte) (measured : Nat) :
    (judgeReport i g measured s).Budgeted := by
  unfold judgeReport
  split
  · exact h
  · dsimp only
    split
    · exact h.level
    · split
      · exact h.level
      · exact budgeted_violate h.level i _ _

theorem budgeted_takeReport (h : s.Budgeted) (i : Slot) (g : Byte) (measured : Nat) :
    (takeReport i g measured s).Budgeted := by
  unfold takeReport
  split
  · exact h.level
  · split
    · exact h.level
    · exact budgeted_judgeReport h i g measured
    · split
      · exact budgeted_judgeReport (budgeted_afterClose (budgeted_comply h i g _ _) true) i g measured
      · exact budgeted_judgeReport h i g measured

theorem budgeted_takeComply (h : s.Budgeted) (i : Slot) (g : Byte) : (takeComply i g s).Budgeted := by
  unfold takeComply
  split
  · exact h.level
  · split
    · exact budgeted_afterClose ((budgeted_comply h i g _ _).level (level_reply i _)) true
    · exact h.level
    · exact h.level

/-! ## The links and the other frames -/

theorem level_setReceiver (link : Link) (r : Receiver) : s.Level (s.setReceiver link r) := by
  cases link <;> exact ⟨rfl, rfl, rfl, rfl⟩

theorem level_linkError (link : Link) (e : LinkError) : s.Level (s.linkError link e) := by
  cases link <;> cases e <;> exact ⟨rfl, rfl, rfl, rfl⟩

theorem budgeted_malformedFrame (h : s.Budgeted) (link : Link) : (malformedFrame link s).Budgeted := by
  unfold malformedFrame
  split
  · exact (h.level (level_setReceiver link _)).level (level_linkError link _)
  · exact h

theorem budgeted_moduleFrame (h : s.Budgeted) (i : Slot) {handle : State → State}
    (hh : ∀ u : State, u.Budgeted → (handle u).Budgeted) : (moduleFrame i handle s).Budgeted := by
  unfold moduleFrame
  split
  · have hheard : (s.hunt (.slot i)).Budgeted := h.level (level_setReceiver _ _)
    dsimp only
    split
    · exact hheard
    · exact hheard
    · exact hh _ hheard
    all_goals exact hh _ hheard.level
  · exact h

theorem budgeted_supplyFrame (h : s.Budgeted) {handle : State → State}
    (hh : ∀ u : State, u.Budgeted → (handle u).Budgeted) : (supplyFrame handle s).Budgeted := by
  unfold supplyFrame
  split
  · exact hh _ (h.level (level_setReceiver .supply _))
  · exact h

theorem budgeted_abandonFrame (h : s.Budgeted) (link : Link) : (abandonFrame link s).Budgeted := by
  unfold abandonFrame
  split
  · split
    · exact h
    · next d _ =>
      exact ((h.level (t := s.reach d)).level (level_setReceiver link _)).level (level_linkError link _)
  · exact h

theorem budgeted_takeData (h : s.Budgeted) (i : Slot) (q : Byte) (payload : List Byte) :
    (takeData i q payload s).Budgeted := by
  unfold takeData
  split <;> exact h.level

theorem budgeted_takeDataDown (h : s.Budgeted) (q slot : Byte) (payload : List Byte) :
    (takeDataDown q slot payload s).Budgeted := by
  unfold takeDataDown
  split
  · exact h.level (level_linkError _ _)
  · split <;> exact h.level

theorem announce_rest (q : Byte) (amount : Nat) :
    (s.announce q amount).pol = s.pol ∧ (s.announce q amount).adm = s.adm := by
  unfold State.announce
  dsimp only
  split <;> exact ⟨rfl, rfl⟩

theorem budgeted_takeBudget (h : s.Budgeted) (q : Byte) (amount : Nat) (urgency : Urgency) :
    (takeBudget q amount urgency s).Budgeted := by
  unfold takeBudget
  split
  · obtain ⟨hpol, hadm⟩ := announce_rest (s := s) q amount
    have hworked : (recompute (s.announce q amount)).Budgeted :=
      budgeted_recompute (hpol ▸ h.cap) (hadm ▸ h.committed_le)
    have hasked := budgeted_requestOnChange hworked s.bud.limit urgency
    unfold immediateIfOver
    split
    · exact budgeted_budgetRound hasked .immediate
    · exact hasked
  · exact h

/-! ## The slots -/

theorem level_join (i : Slot) : s.Level (s.join i) := by
  unfold State.join
  dsimp only
  split <;> exact ⟨rfl, rfl, rfl, rfl⟩

theorem budgeted_takePresent (h : s.Budgeted) (i : Slot) (d : Declared) : (takePresent i d s).Budgeted := by
  unfold takePresent
  split
  · have hheard : (s.hunt (.slot i)).Budgeted := h.level (level_setReceiver _ _)
    have hlived := hheard.level (level_proofOfLife i)
    dsimp only
    split
    · exact hheard
    · split
      · exact (hheard.level (level_declare i d)).level (level_onPort i _)
      · exact hheard
    · split
      · exact (hheard.level (level_declare i d)).level (level_join i)
      · exact hheard
    · exact hlived.level (level_onPort i _)
    · exact hlived.level (level_onPort i _)
    · split
      · exact (hlived.level (level_declare i d)).level (level_enterKnown i _ _)
      · exact hlived.level (level_declare i d)
  · exact h

theorem budgeted_expireProbe (h : s.Budgeted) (i : Slot) : (expireProbe i s).Budgeted := by
  unfold expireProbe
  (repeat' split) <;> exact h.level

theorem budgeted_lose (h : s.Budgeted) (i : Slot) : (s.lose i).Budgeted := by
  have htorn := budgeted_tearAndFollow (h.level (t := s.deassert i)) i
  exact ((htorn.level (level_emptyQueues i)).level (level_enterVacant i _)).level (level_raise _ _ _)

theorem budgeted_closeWindow (h : s.Budgeted) (i : Slot) : (closeWindow i s).Budgeted := by
  unfold closeWindow
  split
  · exact h.level
  · exact h.level
  · exact h.level
  all_goals
    dsimp only
    split
    · exact budgeted_lose h.level i
    · exact h.level

theorem budgeted_expireAnswer (h : s.Budgeted) (i : Slot) : (expireAnswer i s).Budgeted := by
  unfold expireAnswer
  split
  · exact h
  · split
    · exact budgeted_closeWindow h.level i
    · exact h

theorem budgeted_endPenalty (h : s.Budgeted) (i : Slot) : (endPenalty i s).Budgeted := by
  unfold endPenalty
  dsimp only
  (repeat' split) <;> exact h.level

theorem budgeted_resetPort (h : s.Budgeted) (i : Slot) : (s.resetPort i).Budgeted := by
  have htorn := budgeted_tearAndFollow (h.level (t := s.deassert i)) i
  have hcleared := (htorn.level (level_emptyQueues i)).level (level_onPort i SlotPort.restart)
  unfold State.resetPort
  dsimp only
  split
  · exact hcleared.level (level_enterVacant i _)
  · exact hcleared

/-! ## Expiries -/

theorem budgeted_expireContract (h : s.Budgeted) (i : Slot) (g : Byte) (deadline? : Contract → Option Time)
    {act : Contract → State → State} (hact : ∀ c (u : State), u.Budgeted → (act c u).Budgeted) :
    (expireContract i g deadline? act s).Budgeted := by
  unfold expireContract
  split
  · exact h
  · split
    · exact h
    · split
      · exact hact _ _ h.level
      · exact h

theorem budgeted_closeUnaccepted (h : s.Budgeted) (i : Slot) (g : Byte) : (closeUnaccepted i g s).Budgeted :=
  budgeted_runPass ((budgeted_closeContract h i g).level (level_order i _))

theorem budgeted_closeExpired (h : s.Budgeted) (i : Slot) (g : Byte) (c : Contract) : (closeExpired i g c s).Budgeted :=
  budgeted_afterClose ((budgeted_closeContract h i g).level (level_order i _)) _

theorem budgeted_takeSilence (h : s.Budgeted) (i : Slot) (g : Byte) : (takeSilence i g s).Budgeted := by
  unfold takeSilence
  split
  · exact budgeted_violate h.level i _ _
  · exact budgeted_violate h i _ _

theorem budgeted_expireWait (h : s.Budgeted) (i : Slot) (g : Byte) : (expireWait i g s).Budgeted := by
  unfold expireWait
  split
  · exact h
  · split
    · exact h
    · split
      · exact budgeted_runPass h.level
      · exact h

theorem budgeted_expireStale (h : s.Budgeted) : (expireStale s).Budgeted := by
  unfold expireStale
  split
  · exact h
  · next d _ =>
    split
    · dsimp only
      refine budgeted_requestOnChange (budgeted_recompute ?_ ?_) _ _
      · exact h.cap
      · exact h.committed_le
    · exact h

theorem budgeted_expireRetransmit (h : s.Budgeted) : (expireRetransmit s).Budgeted := by
  unfold expireRetransmit
  (repeat' split) <;> exact h.level

/-! ## The Profile Store and the transmitters -/

theorem budgeted_completeErase (h : s.Budgeted) : (completeErase s).Budgeted := by
  unfold completeErase
  split <;> exact h.level

theorem budgeted_completeSave (h : s.Budgeted) (asWritten : Bool) : (completeSave asWritten s).Budgeted := by
  unfold completeSave
  (repeat' split) <;> exact h.level

theorem budgeted_placeLoaded (h : s.Budgeted) {img : Image} (hcap : img.items.budgetCap ≤ maxCount) :
    (placeLoaded img s).Budgeted := by
  unfold placeLoaded
  refine budgeted_requestOnConfig (budgeted_recompute ?_ ?_) _
  · exact hcap
  · exact h.committed_le

/-- R51, R162: the figures of loaded items are worked out afresh, and R122 bounds their cap. -/
theorem budgeted_completeLoad (hv : s.TablesValid) (h : s.Budgeted) : (completeLoad s).Budgeted := by
  obtain ⟨-, -, -, hpages, -⟩ := hv
  have hend : ∀ (p : Slot) (u : State), u.Budgeted →
      (({ u with store.op := none } : State).raise .storeDone none p.val).Budgeted := fun _ _ hu => hu.level
  unfold completeLoad
  split
  · next p _ =>
    dsimp only
    split
    · next img hp =>
      exact hend p _ (budgeted_placeLoaded h (cap_of_page (hpages p) hp))
    · exact hend p s h
    · exact hend p s h
  · exact h
  · exact h
  · exact h

theorem budgeted_beginSlot (h : s.Budgeted) (i : Slot) : (beginSlot i s).Budgeted := by
  unfold beginSlot
  (repeat' split) <;> exact h.level

theorem budgeted_beginUpstream (h : s.Budgeted) : (beginUpstream s).Budgeted := by
  unfold beginUpstream
  (repeat' split) <;> exact h.level

theorem budgeted_endUpstream (h : s.Budgeted) : (endUpstream s).Budgeted := by
  unfold endUpstream
  (repeat' split) <;> exact h.level

/-! ## A commit (R117) -/

theorem unflagged_closeForPolicy (i : Slot) : s.Unflagged (s.closeForPolicy i) := by
  unfold State.closeForPolicy
  have htold := unflagged_foldl (f := fun s c => s.order i (.closed c.tag .policy)) (fun _ _ => unflagged_of_le le_rfl)
    (s.contractsOf i) s
  have hrefused := unflagged_foldl (f := fun s (e : QueueEntry) => (s.leaveQueue i e.tag).refuse i e.tag .policy)
    (fun _ _ => unflagged_of_le le_rfl) (s.claimsOf i)
  exact (htold.trans (hrefused _)).trans (unflagged_removeSlot i)

theorem unflagged_alignSlot (old : Policy) (i : Slot) : s.Unflagged (alignSlot old i s) := by
  have hclosed := unflagged_closeForPolicy (s := s) i
  unfold alignSlot
  dsimp only
  split
  · exact .refl s
  · split
    · exact hclosed.trans (level_disable i).unflagged
    · exact (level_disable i).unflagged
    · exact (level_enterVacant i _).unflagged
    · split
      · exact .refl s
      · exact hclosed.trans (level_enterKnown i _ _).unflagged
    · split
      · exact (level_enterKnown i _ _).unflagged
      · exact .refl s
    · exact .refl s

theorem unflagged_checkCeiling (c : Contract) : s.Unflagged (checkCeiling c s) := by
  unfold checkCeiling
  split
  · split
    · exact (unflagged_removeContract _ _).trans (level_order _ _).unflagged
    · exact (level_issueShed _ _ _ _).unflagged
    · exact .refl s
  · exact .refl s

theorem unflagged_checkEntry (e : QueueEntry) : s.Unflagged (checkEntry e s) := by
  unfold checkEntry
  split
  · exact unflagged_of_le le_rfl
  · exact .refl s

/-- Until the one re-evaluation of its flags a commit only lowers committed power. -/
theorem unflagged_commitChecks (old : Vector Policy 8) : s.Unflagged (commitChecks old s) := by
  have haligned := unflagged_foldl (fun _ i => unflagged_alignSlot (old.get i) i) allSlots s
  have hchecked : s.Unflagged (checkCeilings (alignSlots old s)) :=
    haligned.trans (unflagged_foldl (fun _ c => unflagged_checkCeiling c) _ _)
  exact hchecked.trans (unflagged_foldl (fun _ e => unflagged_checkEntry e) _ _)

theorem budgeted_commitStages (h : s.Budgeted) : (commitStages s).Budgeted := by
  rw [commitStages_eq]
  have hswapped : s.swapped.Budgeted := h.level
  have hchecked := unflagged_commitChecks (s := s.swapped) s.pol.active
  have hflagged := hswapped.evalFlags (hchecked.trans level_rebuildQueue.unflagged)
  exact budgeted_budgetRound (budgeted_runPass hflagged) .normal

/-! ## The management commands -/

theorem budgeted_takeCommand (h : s.Budgeted) (q : Byte) {run : State → State × Settle}
    (hrun : ∀ u : State, u.Budgeted → (run u).1.Budgeted) : (takeCommand q run s).Budgeted := by
  refine budgeted_supplyFrame h fun u hu => ?_
  split
  · exact hu
  · unfold answerCommand
    split
    · exact hu.level
    · have hanswered : ∀ v : State, v.Budgeted →
          ({ v.pushAnswer ⟨q, (run u).2⟩ with man.cache := some ⟨q, (run u).2⟩ } : State).Budgeted :=
        fun _ hv => hv.level
      exact hanswered _ (hrun u hu)

theorem budgeted_runReadEntry (h : s.Budgeted) (table index : Byte) : (runReadEntry table index s).1.Budgeted := by
  unfold runReadEntry naked
  (repeat' split) <;> exact h

theorem budgeted_runWritePolicy (h : s.Budgeted) (slot : Byte) (record : List Byte) :
    (runWritePolicy slot record s).1.Budgeted := by
  unfold runWritePolicy naked acked
  (repeat' split) <;> exact h.level

theorem budgeted_runCommit (h : s.Budgeted) : (runCommit s).1.Budgeted := by
  unfold runCommit acked
  split
  · dsimp only
    exact budgeted_commitStages h
  · exact h

theorem budgeted_runClearEvents (h : s.Budgeted) (count : Byte) (kinds : List Byte) :
    (runClearEvents count kinds s).1.Budgeted := by
  unfold runClearEvents naked acked
  (repeat' split) <;> exact h.level

theorem budgeted_runForceShed (h : s.Budgeted) (slot g : Byte) (target : Nat) :
    (runForceShed slot g target s).1.Budgeted := by
  unfold runForceShed naked acked
  split
  · exact h
  · split
    · exact h
    · split
      · exact h
      · split
        · exact h
        · exact h.level (level_issueShed _ _ _ _)

theorem budgeted_runForceClose (h : s.Budgeted) (slot g : Byte) : (runForceClose slot g s).1.Budgeted := by
  unfold runForceClose naked acked
  split
  · exact h
  · split
    · exact h
    · exact budgeted_afterClose ((budgeted_closeContract h _ _).level (level_order _ _)) _

theorem budgeted_runForceCut (h : s.Budgeted) (slot : Byte) : (runForceCut slot s).1.Budgeted := by
  unfold runForceCut naked acked
  split
  · exact h
  · split
    · exact budgeted_cutAndFollow h _ _
    · exact h

theorem budgeted_runPortReset (h : s.Budgeted) (slot : Byte) : (runPortReset slot s).1.Budgeted := by
  unfold runPortReset naked acked
  split
  · exact h
  · exact budgeted_resetPort h _

theorem budgeted_runRestart (h : s.Budgeted) : (runRestart s).1.Budgeted := by
  unfold runRestart naked acked
  split <;> exact h.level

theorem budgeted_storeCommand (h : s.Budgeted) (page : Byte) {own : Slot → State → State × Settle}
    (hown : ∀ p, (own p s).1.Budgeted) : (storeCommand page own s).1.Budgeted := by
  unfold storeCommand naked
  split
  · exact h
  · split
    · exact h
    · exact hown _

theorem budgeted_ownErase (h : s.Budgeted) (p : Slot) : (ownErase p s).1.Budgeted := by
  unfold ownErase naked acked
  split <;> exact h.level

theorem budgeted_ownSave (h : s.Budgeted) (p : Slot) : (ownSave p s).1.Budgeted := by
  unfold ownSave naked acked
  (repeat' split) <;> exact h.level

theorem budgeted_ownLoad (h : s.Budgeted) (p : Slot) : (ownLoad p s).1.Budgeted := by
  unfold ownLoad naked acked
  split <;> exact h.level

/-- R51, R53, R54: new marks come with the watermark flag's evaluation, and leave the overcommit flag's inputs. -/
theorem budgeted_newMarks {items : LiveItems} (h : s.Budgeted) (hcap : items.budgetCap = s.pol.items.budgetCap)
    (hsafe : items.safeBudget = s.pol.items.safeBudget) (hreserve : items.reserve = s.pol.items.reserve) :
    (newMarks { s with pol.items := items }).Budgeted := by
  obtain ⟨⟨hfigures, hover, -, hlimit, hcommitted⟩, hcap'⟩ := h
  let marked : State := { s with pol.items := items, bud := workOutMarks s.bud items }
  have hkept := kept_evalWatermark (s := marked)
  show (evalWatermark marked).Budgeted
  refine ⟨?_, by rw [hkept.pol]; exact hcap ▸ hcap'⟩
  unfold State.BudgetAgrees
  rw [hkept.part, hkept.pol, evalWatermark_adm, evalWatermark_bud]
  have hmark := watermarkValue_idem marked.bud marked.bud.overcommit marked.adm.committed
  refine ⟨fun hrunning => ?_, hover, hmark.symm, hlimit, hcommitted⟩
  obtain ⟨heffective, hbound, -, -⟩ := hfigures hrunning
  have hbase : baseFigure s.bud items = baseFigure s.bud s.pol.items := by unfold baseFigure; rw [hsafe]
  have heffective' : s.bud.effective = min items.budgetCap (baseFigure s.bud items) := by rw [heffective, hbase, hcap]
  have hbound' : s.bud.limit = s.bud.effective - items.reserve := by rw [hbound, hreserve]
  exact ⟨heffective', hbound', rfl, rfl⟩

/-- Items other than those that the figures are worked out from (R123). -/
theorem budgeted_otherItems {items : LiveItems} (h : s.Budgeted) (hcap : items.budgetCap = s.pol.items.budgetCap)
    (hsafe : items.safeBudget = s.pol.items.safeBudget) (hreserve : items.reserve = s.pol.items.reserve)
    (hhigh : items.highMark = s.pol.items.highMark) (hlow : items.lowMark = s.pol.items.lowMark) :
    ({ s with pol.items := items } : State).Budgeted := by
  obtain ⟨⟨hfigures, hrest⟩, hcap'⟩ := h
  refine ⟨⟨fun hrunning => ?_, hrest⟩, hcap.trans_le hcap'⟩
  have hbase : baseFigure s.bud items = baseFigure s.bud s.pol.items := by unfold baseFigure; rw [hsafe]
  show s.bud.effective = min items.budgetCap (baseFigure s.bud items) ∧ s.bud.limit = s.bud.effective - items.reserve
    ∧ s.bud.highMark = s.bud.limit * items.highMark / 100 ∧ s.bud.lowMark = s.bud.limit * items.lowMark / 100
  rw [hbase, hcap, hreserve, hhigh, hlow]
  exact hfigures hrunning

/-- A configuration change that passes its checks: the mask replaced, or a figure in its range put (R123). -/
theorem configChange_ok {items items' : LiveItems} {item : Byte} {body : List Byte} {it : ConfigItem}
    (h : configChange items item body = .ok (it, items')) :
    (it = .eventMask ∧ ∃ set, items' = { items with eventMask := set })
      ∨ ∃ v, it.inRange v = true ∧ items' = items.put it v := by
  unfold configChange at h
  split at h
  · simp at h
  · split at h
    · simp at h
    · split at h
      · simp at h
      · split at h
        · simp at h
        · next set _ =>
          cases h
          exact .inl ⟨rfl, set, rfl⟩
  · split at h
    · simp at h
    · next hrange =>
      split at h
      · simp at h
      · cases h
        exact .inr ⟨_, by simpa using hrange, rfl⟩

theorem budgeted_runSetConfig (h : s.Budgeted) (item : Byte) (body : List Byte) :
    (runSetConfig item body s).1.Budgeted := by
  unfold runSetConfig naked acked
  split
  · exact h
  · next it items hok =>
    have hfigures : ∀ items' : LiveItems, items'.budgetCap ≤ maxCount →
        (requestOnConfig s.bud.limit (recompute { s with pol.items := items' })).Budgeted := by
      intro items' hcap
      refine budgeted_requestOnConfig (budgeted_recompute ?_ ?_) _
      · exact hcap
      · exact h.committed_le
    dsimp only
    rcases configChange_ok hok with ⟨rfl, set, rfl⟩ | ⟨v, hrange, rfl⟩
    · exact budgeted_otherItems h rfl rfl rfl rfl rfl
    · cases it with
      | budgetCap => exact hfigures _ (by simpa [ConfigItem.inRange, LiveItems.put, maxCount] using hrange)
      | safeBudget => exact hfigures _ h.cap
      | reserve => exact hfigures _ h.cap
      | highMark => exact budgeted_newMarks h rfl rfl rfl
      | lowMark => exact budgeted_newMarks h rfl rfl rfl
      | staleTimeout => exact budgeted_otherItems h rfl rfl rfl rfl rfl
      | acceptWindow => exact budgeted_otherItems h rfl rfl rfl rfl rfl
      | probeInterval => exact budgeted_otherItems h rfl rfl rfl rfl rfl
      | eventMask => exact h

/-! ## Every command -/

theorem budgeted_takeFrame (h : s.Budgeted) (c : Instr) : (takeFrame c s).Budgeted := by
  cases c with
  | claim i g want least => exact budgeted_moduleFrame h i fun _ hu => budgeted_takeClaim hu i g _ _
  | accept i g => exact budgeted_moduleFrame h i fun _ hu => budgeted_takeAccept hu i g
  | decline i g => exact budgeted_moduleFrame h i fun _ hu => budgeted_takeDecline hu i g
  | release i g => exact budgeted_moduleFrame h i fun _ hu => budgeted_takeRelease hu i g
  | adjust i g amount => exact budgeted_moduleFrame h i fun _ hu => budgeted_takeAdjust hu i g _
  | renew i g => exact budgeted_moduleFrame h i fun _ hu => budgeted_takeRenew hu i g
  | report i g measured => exact budgeted_moduleFrame h i fun _ hu => budgeted_takeReport hu i g _
  | comply i g => exact budgeted_moduleFrame h i fun _ hu => budgeted_takeComply hu i g
  | present i cls peak => exact budgeted_takePresent h i _
  | data i q payload => exact budgeted_moduleFrame h i fun _ hu => budgeted_takeData hu i q payload
  | budget q amount urgency => exact budgeted_supplyFrame h fun _ hu => budgeted_takeBudget hu q _ urgency
  | noticeAck q => exact budgeted_supplyFrame h fun _ hu => hu.level
  | dataDown q slot payload => exact budgeted_supplyFrame h fun _ hu => budgeted_takeDataDown hu q slot payload
  | queryStatus q => exact budgeted_takeCommand h q fun _ hu => hu
  | readEntry q table index => exact budgeted_takeCommand h q fun _ hu => budgeted_runReadEntry hu table index
  | writePolicy q slot record => exact budgeted_takeCommand h q fun _ hu => budgeted_runWritePolicy hu slot record
  | discard q => exact budgeted_takeCommand h q fun _ hu => hu.level
  | commit q => exact budgeted_takeCommand h q fun _ hu => budgeted_runCommit hu
  | setConfig q item body => exact budgeted_takeCommand h q fun _ hu => budgeted_runSetConfig hu item body
  | clearEvents q count kinds => exact budgeted_takeCommand h q fun _ hu => budgeted_runClearEvents hu count kinds
  | forceShed q slot g target => exact budgeted_takeCommand h q fun _ hu => budgeted_runForceShed hu slot g _
  | forceClose q slot g => exact budgeted_takeCommand h q fun _ hu => budgeted_runForceClose hu slot g
  | forceCut q slot => exact budgeted_takeCommand h q fun _ hu => budgeted_runForceCut hu slot
  | portReset q slot => exact budgeted_takeCommand h q fun _ hu => budgeted_runPortReset hu slot
  | storeErase q page =>
    exact budgeted_takeCommand h q fun _ hu => budgeted_storeCommand hu page (budgeted_ownErase hu)
  | storeSave q page => exact budgeted_takeCommand h q fun _ hu => budgeted_storeCommand hu page (budgeted_ownSave hu)
  | storeLoad q page => exact budgeted_takeCommand h q fun _ hu => budgeted_storeCommand hu page (budgeted_ownLoad hu)
  | restart q => exact budgeted_takeCommand h q fun _ hu => budgeted_runRestart hu
  | _ => exact h

theorem budgeted_receiveOn (h : s.Budgeted) (link : Link) (b : Byte) : (receiveOn link s b).Budgeted := by
  unfold receiveOn
  split
  · dsimp only
    generalize hr : s.setReceiver link _ = heard
    have hheard : heard.Budgeted := hr ▸ h.level (level_setReceiver link _)
    split
    · exact hheard
    · unfold takeVerdict
      split
      · exact budgeted_takeFrame hheard _
      · exact hheard
      · exact hheard.level (level_linkError link _)
  · exact h

theorem budgeted_receiveAll (link : Link) (bytes : List Byte) :
    ∀ s : State, s.Budgeted → (bytes.foldl (receiveOn link) s).Budgeted := by
  induction bytes with
  | nil => exact fun _ h => h
  | cons b r ih => exact fun s h => ih _ (budgeted_receiveOn h link b)

theorem budgeted_restarted (straps : BitVec 2) (asWritten : BitVec 8) : (s.restarted straps asWritten).Budgeted :=
  ⟨⟨fun hrunning => PartState.noConfusion hrunning, rfl, rfl, Nat.zero_le _, Nat.zero_le _⟩, le_refl 65535⟩

/-- A port of an enabled slot at the scan's end: VACANT, with its first PROBE due (R166 stage 4). -/
def SlotPort.opened (probe : Time) (p : SlotPort) : SlotPort :=
  { p with
    state := .vacant, joinCount := 0, missCount := 0, declared := none, answerDeadline := none,
    penaltyEnd := none, probeDeadline := some probe, enable := false }

/-- The opening of a slot whose record is enabled. -/
def State.openSlot (s : State) (i : Slot) : State :=
  if (s.policy i).enabled then s.enterVacant i (some s.nextProbe) else s

theorem openSlot_eq (i : Slot) : s.openSlot i =
    if (s.policy i).enabled then s.setPort i ((s.port i).opened s.nextProbe) else s := by
  unfold State.openSlot
  rw [enterVacant_eq]
  rfl

/-- The opening of slots touches nothing but ports. -/
theorem openSlots_foldl_rest (l : List Slot) : ∀ s : State,
    ∃ ports, l.foldl State.openSlot s = { s with ports := ports } := by
  induction l with
  | nil => exact fun s => ⟨s.ports, rfl⟩
  | cons i rest ih =>
    intro s
    obtain ⟨ports, hports⟩ := ih (s.openSlot i)
    refine ⟨ports, hports.trans ?_⟩
    rw [openSlot_eq]
    split <;> rfl

theorem level_openSlots : s.Level (openSlots s) := by
  obtain ⟨ports, hopened⟩ := openSlots_foldl_rest allSlots s
  have hslots : openSlots s = { s with ports := ports } := hopened
  rw [hslots]
  exact ⟨rfl, rfl, rfl, rfl⟩

/-- R122: the items that the scan puts in force are valid, of a page or by default. -/
theorem placeImage_cap (h : s.TablesValid) :
    (placeImage (choosePage s.store.pages) s).pol.items.budgetCap ≤ maxCount := by
  obtain ⟨-, -, -, hpages, -⟩ := h
  cases hc : choosePage s.store.pages with
  | none => exact le_refl 65535
  | some choice =>
    obtain ⟨p, img⟩ := choice
    exact cap_of_page (hpages p) (choosePage_spec hc)

/-- R56: the first figures are those of their inputs, and no power is committed that could exceed them. -/
theorem budgeted_firstFigures (hcommitted : s.adm.committed = 0) (hcap : s.pol.items.budgetCap ≤ maxCount) :
    ({ firstFigures s with part := .running } : State).Budgeted := by
  refine ⟨⟨fun _ => ⟨rfl, rfl, rfl, rfl⟩, ?_, ?_, workOut_limit_le hcap, ?_⟩, hcap⟩
  · show false = decide (_ < s.adm.committed)
    simp [hcommitted]
  · exact (watermarkValue_idem _ false s.adm.committed).symm
  · show s.adm.committed ≤ maxCount
    omega

/-- R56, R166: the scan's end works the figures out for the first time, over no committed power. -/
theorem budgeted_endScan (hclean : s.StartsClean) (hv : s.TablesValid) (h : s.Budgeted) : (endScan s).Budgeted := by
  unfold endScan
  split
  · next hpart =>
    obtain ⟨-, -, hadm, -⟩ := hclean hpart
    have hcommitted : (placeImage (choosePage s.store.pages) s).adm.committed = 0 := by
      rw [(placeImage_rest _).1, hadm]
      rfl
    have hfigures := budgeted_firstFigures hcommitted (placeImage_cap hv)
    exact State.Budgeted.level (hfigures.level level_openSlots) (level_raise _ _ _)
  · exact h

/-- Every command keeps the budget as its inputs have it. -/
theorem budgeted_exec (hclean : s.StartsClean) (hv : s.TablesValid) (hs : s.Budgeted) (c : Instr)
    (h : exec c s = .next t) : t.Budgeted := by
  have hkeep : ∀ {u : State}, u.Budgeted → (Host.Outcome.next u : Out) = .next t → t.Budgeted := by
    rintro u hu ⟨⟩
    exact hu
  have hframe : ∀ d : Instr, (Host.Outcome.next (takeFrame d s) : Out) = .next t → t.Budgeted := fun d =>
    hkeep (budgeted_takeFrame hs d)
  have hform : ∀ (d : Instr) (link : Link) {f : Prop} [Decidable f],
      (Host.Outcome.next (if f then takeFrame d s else malformedFrame link s) : Out) = .next t → t.Budgeted := by
    rintro d link f _ ⟨⟩
    split
    · exact budgeted_takeFrame hs d
    · exact budgeted_malformedFrame hs link
  cases c with
  | claim i g want least => exact hframe (.claim i g want least) h
  | accept i g => exact hframe (.accept i g) h
  | decline i g => exact hframe (.decline i g) h
  | release i g => exact hframe (.release i g) h
  | adjust i g amount => exact hframe (.adjust i g amount) h
  | renew i g => exact hframe (.renew i g) h
  | report i g measured => exact hframe (.report i g measured) h
  | comply i g => exact hframe (.comply i g) h
  | present i cls peak => exact hframe (.present i cls peak) h
  | data i q payload => exact hform (.data i q payload) _ h
  | frameReceiveError link bytes => exact hkeep (budgeted_receiveAll link bytes s hs) h
  | byteGapTimeout link => exact hkeep (budgeted_abandonFrame hs link) h
  | budget q amount urgency => exact hframe (.budget q amount urgency) h
  | noticeAck q => exact hframe (.noticeAck q) h
  | dataDown q slot payload => exact hform (.dataDown q slot payload) _ h
  | queryStatus q => exact hframe (.queryStatus q) h
  | readEntry q table index => exact hframe (.readEntry q table index) h
  | writePolicy q slot record => exact hform (.writePolicy q slot record) _ h
  | discard q => exact hframe (.discard q) h
  | commit q => exact hframe (.commit q) h
  | setConfig q item body => exact hform (.setConfig q item body) _ h
  | clearEvents q count kinds => exact hform (.clearEvents q count kinds) _ h
  | forceShed q slot g target => exact hframe (.forceShed q slot g target) h
  | forceClose q slot g => exact hframe (.forceClose q slot g) h
  | forceCut q slot => exact hframe (.forceCut q slot) h
  | portReset q slot => exact hframe (.portReset q slot) h
  | storeErase q page => exact hframe (.storeErase q page) h
  | storeSave q page => exact hframe (.storeSave q page) h
  | storeLoad q page => exact hframe (.storeLoad q page) h
  | restart q => exact hframe (.restart q) h
  | offerDeadline i g =>
    exact hkeep (budgeted_expireContract hs i g _ fun _ _ hu => budgeted_closeUnaccepted hu i g) h
  | leaseExpiry i g => exact hkeep (budgeted_expireContract hs i g _ fun c _ hu => budgeted_closeExpired hu i g c) h
  | waitDeadline i g => exact hkeep (budgeted_expireWait hs i g) h
  | staleDeadline => exact hkeep (budgeted_expireStale hs) h
  | shedDeadline i g => exact hkeep (budgeted_expireContract hs i g _ fun _ _ hu => budgeted_cutAndFollow hu i _) h
  | reportDeadline i g => exact hkeep (budgeted_expireContract hs i g _ fun _ _ hu => budgeted_takeSilence hu i g) h
  | penaltyEndTime i => exact hkeep (budgeted_endPenalty hs i) h
  | probeDeadline i => exact hkeep (budgeted_expireProbe hs i) h
  | answerDeadline i => exact hkeep (budgeted_expireAnswer hs i) h
  | retransmitDeadline => exact hkeep (budgeted_expireRetransmit hs) h
  | storeEraseCompletion => exact hkeep (budgeted_completeErase hs) h
  | storeSaveCompletion asWritten => exact hkeep (budgeted_completeSave hs asWritten) h
  | storeLoadCompletion => exact hkeep (budgeted_completeLoad hv hs) h
  | slotTransmissionBegin i => exact hkeep (budgeted_beginSlot hs i) h
  | slotTransmissionSent i => exact hkeep hs.level h
  | upstreamTransmissionBegin => exact hkeep (budgeted_beginUpstream hs) h
  | upstreamTransmissionSent => exact hkeep (budgeted_endUpstream hs) h
  | restartTakesEffect straps asWritten =>
    cases h
    split
    · exact budgeted_restarted straps asWritten
    · exact hs
  | hardReset straps asWritten => exact hkeep (budgeted_restarted straps asWritten) h
  | startUpScanEnd => exact hkeep (budgeted_endScan hclean hv hs) h

/-- Settles O11: a change of committed power comes with the flags' re-evaluation, and a change of an input with the
figures worked out afresh. -/
theorem budgetStaysWorkedOut : Obligations.BudgetStaysWorkedOut := by
  intro s t hclean hv hs hstep
  have hbudgeted : s.Budgeted := ⟨hs, cap_of_tablesValid hv⟩
  unfold step at hstep
  split at hstep
  · cases hstep
    exact (hbudgeted.level (t := tick s)).agrees
  · next c rest _ =>
    exact (budgeted_exec (s := { s with pending := rest }) hclean hv hbudgeted.level c hstep).agrees

/-! ## The BUDGET frame and the stale deadline (R45 to R49) -/

/-- R49, R53: the figures worked out afresh from a base figure that is known. -/
theorem recompute_of_base {items : LiveItems} {base : Nat} (hitems : s.pol.items = items)
    (hbase : baseFigure s.bud items = base) : recompute s = evalFlags
      { s with
        bud.effective := min items.budgetCap base
        bud.limit := min items.budgetCap base - items.reserve
        bud.highMark := (min items.budgetCap base - items.reserve) * items.highMark / 100
        bud.lowMark := (min items.budgetCap base - items.reserve) * items.lowMark / 100 } := by
  subst hitems hbase
  rfl

theorem fresh_iff {q : Byte} :
    s.fresh q = true ↔ ∀ last ∈ s.bud.lastSequence, 1 ≤ (q - last).toNat ∧ (q - last).toNat ≤ 127 := by
  unfold State.fresh
  cases s.bud.lastSequence with
  | none => simp
  | some last => simp

/-- R46: an announcement is the base figure, whatever the stale flag was. -/
theorem baseFigure_announce (q : Byte) (amount : Nat) (items : LiveItems) :
    baseFigure (s.announce q amount).bud items = amount := by
  unfold State.announce
  dsimp only
  split <;> rfl

/-- R47, R49: what a frame's change of the limit asks for. A round of its own leaves the limit below where it was, so
that the IMMEDIATE round comes only where the limit has not fallen. -/
theorem requests_of_frame (before : Nat) (urgency : Urgency) (u : State) :
    let passed := if before < u.bud.limit then runPass u else u
    immediateIfOver before urgency (requestOnChange before urgency u) =
      if u.bud.limit < before then budgetRound urgency u
      else if urgency = .immediate ∧ u.bud.limit < passed.adm.committed then budgetRound .immediate passed
      else passed := by
  intro passed
  have hpassed : passed.bud.limit = u.bud.limit := by
    unfold passed
    split
    · exact kept_runPass.limit
    · rfl
  by_cases hfall : u.bud.limit < before
  · have hround : (budgetRound urgency u).bud.limit = u.bud.limit := (kept_budgetRound urgency).limit
    simp only [requestOnChange, immediateIfOver, hfall, if_true, hround]
    exact if_neg fun hi => absurd hi.2.1 (Nat.not_le.2 hfall)
  · have hasked : requestOnChange before urgency u = passed := by simp only [requestOnChange, hfall, if_false]; rfl
    simp only [hasked, immediateIfOver, hfall, if_false, hpassed, Nat.le_of_not_lt hfall, true_and]

/-- Settles O30: the announcement is the base figure of the figures worked out, and the requests follow the limit. -/
theorem budgetFramesAreTaken : Obligations.BudgetFramesAreTaken := by
  intro s q amount urgency hactive fresh told resumed effective limit u passed
  have hexec : exec (.budget q amount urgency) s = .next (takeBudget q amount.toNat urgency s.onSupply) :=
    congrArg _ (supplyFrame_of_active hactive)
  have hfresh : s.onSupply.fresh q = true ↔ fresh := fresh_iff
  rw [hexec]
  refine ⟨fun h => ?_, fun h => ?_⟩
  · have hresumed : s.onSupply.announce q amount.toNat = resumed := rfl
    have hpol : resumed.pol = s.pol := hresumed ▸ (announce_rest q amount.toNat).1
    have hbase : baseFigure resumed.bud s.pol.items = amount.toNat := hresumed ▸ baseFigure_announce q _ _
    have hworked : recompute resumed = u := recompute_of_base (congrArg _ hpol) hbase
    have hlimit : u.bud.limit = limit := evalFlags_limit
    have htake : takeBudget q amount.toNat urgency s.onSupply =
        immediateIfOver s.bud.limit urgency (requestOnChange s.bud.limit urgency u) := by
      rw [takeBudget, if_pos (hfresh.2 h), hresumed, hworked]
      rfl
    rw [htake, requests_of_frame, hlimit]
  · exact congrArg _ (if_neg (mt hfresh.1 h))

/-- Settles O31: the base figure is SAFE_BUDGET once the stale flag is set. -/
theorem staleBudgetFallsBack : Obligations.StaleBudgetFallsBack := by
  intro s d hactive hd items effective limit told u
  have hworked : recompute told = u := recompute_of_base rfl rfl
  have hlimit : u.bud.limit = limit := evalFlags_limit
  have hexpire : expireStale s = requestOnChange s.bud.limit .normal u := by
    unfold expireStale
    simp only [hd, hactive, if_true]
    rw [← hworked]
    rfl
  have hexec : exec .staleDeadline s = .next (expireStale s) := rfl
  rw [hexec, hexpire, requestOnChange, hlimit]

/-! ## The configuration items (R122, R123) -/

/-- R132: the kinds of a list are no set exactly where a code names no kind. -/
theorem kindSetOf?_eq_none {kinds : List Byte} : kindSetOf? kinds = none ↔ ∃ k ∈ kinds, 18 ≤ k.toNat := by
  induction kinds with
  | nil => simp [kindSetOf?]
  | cons k rest ih =>
    unfold kindSetOf?
    split
    · next hk =>
      have hk' : ¬ 18 ≤ k.toNat := Nat.not_le.2 hk
      simp [ih, hk']
    · next hk => exact iff_of_true rfl ⟨k, by simp, Nat.le_of_not_lt hk⟩

theorem getLsbD_addCode {set : KindSet} {code n : Nat} (hn : n < 18) :
    (addCode set code).getLsbD n = (code == n || set.getLsbD n) := by
  simp only [addCode, BitVec.getLsbD_or, BitVec.getLsbD_shiftLeft, BitVec.getLsbD_one, hn, Nat.ofNat_pos,
    decide_true, Bool.true_and]
  by_cases h : code = n
  · simp [h]
  · have hbit : (!decide (n < code) && decide (n - code = 0)) = false := by
      simp only [Bool.and_eq_false_iff, Bool.not_eq_false', decide_eq_true_eq, decide_eq_false_iff_not]
      omega
    simp only [hbit, Bool.or_false, beq_eq_false_iff_ne.2 h, Bool.false_or]

/-- R123: the set of a list of kinds has exactly the bits of the codes named. -/
theorem kindSetOf?_bits {kinds : List Byte} : ∀ {set : KindSet}, kindSetOf? kinds = some set →
    ∀ n, n < 18 → set.getLsbD n = namedBy kinds n := by
  induction kinds with
  | nil =>
    rintro set h n -
    simp only [kindSetOf?, Option.some.injEq] at h
    simp [← h, namedBy]
  | cons k rest ih =>
    intro set h n hn
    unfold kindSetOf? at h
    split at h
    · obtain ⟨set', hset', rfl⟩ := Option.map_eq_some_iff.1 h
      rw [getLsbD_addCode hn, ih hset' n hn]
      rfl
    · simp at h

theorem ofCode?_eq_none {n : Nat} (h : n = 0 ∨ 9 < n) : ConfigItem.ofCode? n = none := by
  unfold ConfigItem.ofCode?
  split
  case h_10 => rfl
  all_goals omega

theorem configChange_of_unknown {items : LiveItems} {item : Byte} {body : List Byte}
    (h : ConfigItem.ofCode? item.toNat = none) : configChange items item body = .error .badIndex := by
  simp only [configChange, h]

/-- Checks 2 and 3 of R123 on a figure. -/
theorem configChange_of_figure {items : LiveItems} {item hi lo : Byte} {k : ConfigItem}
    (h : ConfigItem.ofCode? item.toNat = some k) (hk : k ≠ .eventMask) : configChange items item [hi, lo] =
      if k.inRange (figure2 hi lo) = false ∨ k.marksOk items (figure2 hi lo) = false then .error .badValue
      else .ok (k, items.put k (figure2 hi lo)) := by
  have hchange : configChange items item [hi, lo] =
      if !k.inRange (figure2 hi lo) then .error .badValue
      else if !k.marksOk items (figure2 hi lo) then .error .badValue
      else .ok (k, items.put k (figure2 hi lo)) := by
    unfold configChange
    rw [h]
    cases k with
    | eventMask => exact absurd rfl hk
    | _ => rfl
  rw [hchange]
  cases k.inRange (figure2 hi lo) <;> cases k.marksOk items (figure2 hi lo) <;> rfl

/-- The check of form of R132, and check 2 of R123 on a list of kinds. -/
theorem configChange_of_mask (items : LiveItems) (count : Byte) (kinds : List Byte) :
    configChange items 9 (count :: kinds) =
      if 18 < count.toNat ∨ count.toNat ≠ kinds.length then .error .malformed
      else match kindSetOf? kinds with
        | none => .error .badValue
        | some set => .ok (.eventMask, { items with eventMask := set }) := by
  have hform : (!listFormOk count kinds) = true ↔ 18 < count.toNat ∨ count.toNat ≠ kinds.length := by
    have hkinds : eventKinds = 18 := rfl
    simp only [listFormOk, Bool.not_eq_true', Bool.eq_false_iff, ne_eq, Bool.and_eq_true, decide_eq_true_eq, beq_iff_eq]
    omega
  have hchange : configChange items 9 (count :: kinds) =
      if (!listFormOk count kinds) = true then .error .malformed
      else match kindSetOf? kinds with
        | none => .error .badValue
        | some set => .ok (.eventMask, { items with eventMask := set }) := rfl
  rw [hchange]
  exact if_congr hform rfl rfl

theorem runSetConfig_of_error {item : Byte} {body : List Byte} {reason : NakReason}
    (h : configChange s.pol.items item body = .error reason) : runSetConfig item body s = (s, .nak reason) := by
  simp only [runSetConfig, h, naked]

theorem runSetConfig_of_ok {item : Byte} {body : List Byte} {it : ConfigItem} {items : LiveItems}
    (h : configChange s.pol.items item body = .ok (it, items)) :
    runSetConfig item body s = (configEffect it { s with pol.items := items }, .ack []) := by
  simp only [runSetConfig, h, acked]

theorem configBodyFits_pair (item hi lo : Byte) : configBodyFits item [hi, lo] = true := by
  unfold configBodyFits
  split <;> rfl

/-- An executed SET_CONFIG of a form that a frame can carry. -/
theorem exec_setConfig {q item : Byte} {body : List Byte} {outcome : Settle} (h : s.executes q)
    (hfits : configBodyFits item body = true) (hrun : runSetConfig item body s.onSupply = (u, outcome)) :
    exec (.setConfig q item body) s = .next (u.settled q outcome) := by
  have hexec : exec (.setConfig q item body) s = .next (if configBodyFits item body then
    takeCommand q (runSetConfig item body) s else malformedFrame .supply s) := rfl
  rw [hexec, if_pos hfits, takeCommand_settled h hrun]

/-- Settles O45: the checks of an item in order, and the effect of each item. -/
theorem configItemsTakeEffect : Obligations.ConfigItemsTakeEffect := by
  intro s q item hi lo count kinds hx u v set mask
  have hset : ∀ {t : State} {outcome : Settle}, runSetConfig item [hi, lo] u = (t, outcome) →
      set (t.settled q outcome) := exec_setConfig hx (configBodyFits_pair item hi lo)
  refine ⟨fun hcode => ?_, fun k hcode hk => ?_, fun hlength => ?_⟩
  · exact hset (runSetConfig_of_error (configChange_of_unknown (ofCode?_eq_none hcode)))
  · intro put worked
    have hchange : configChange u.pol.items item [hi, lo] = _ := configChange_of_figure hcode hk
    split
    · next hbad => exact hset (runSetConfig_of_error (hchange.trans (if_pos hbad)))
    · next hgood =>
      have hput := hset (runSetConfig_of_ok (hchange.trans (if_neg hgood)))
      cases k with
      | eventMask => exact absurd rfl hk
      | _ => exact hput
  · have hfits : configBodyFits 9 (count :: kinds) = true := by
      simp [configBodyFits, eventMaskItem]
      omega
    have hmask : ∀ {t : State} {outcome : Settle}, runSetConfig 9 (count :: kinds) u = (t, outcome) →
        mask (t.settled q outcome) := exec_setConfig hx hfits
    have hchange := configChange_of_mask u.pol.items count kinds
    split
    · next hform => exact hmask (runSetConfig_of_error (hchange.trans (if_pos hform)))
    · next hform =>
      rw [if_neg hform] at hchange
      split
      · next hnone =>
        rw [kindSetOf?_eq_none.2 hnone] at hchange
        exact hmask (runSetConfig_of_error hchange)
      · next hsome =>
        obtain ⟨m, hm⟩ := Option.ne_none_iff_exists'.1 (mt kindSetOf?_eq_none.1 hsome)
        rw [hm] at hchange
        exact ⟨m, kindSetOf?_bits hm, hmask (runSetConfig_of_ok hchange)⟩

/-! ## The completions of the Profile Store (R159, R161, R162) -/

theorem completeSave_eq {p : Slot} {img : Image} (h : s.store.op = some (.save p img)) (asWritten : Bool) :
    completeSave asWritten s =
      if asWritten && img.intact then s.complete p (.valid img) .storeDone else s.complete p .damaged .storeFailed := by
  simp only [completeSave, h]

/-- Settles O52: each completion by the operation that ends. -/
theorem storeOperationsComplete : Obligations.StoreOperationsComplete := by
  intro s p ended intact
  have hsave : ∀ asWritten, exec (.storeSaveCompletion asWritten) s = .next (completeSave asWritten s) := fun _ => rfl
  have hintact : ∀ img : Image, img.intact = true ↔ intact img := fun img => beq_iff_eq
  refine ⟨fun hop => ?_, fun img hop => ⟨fun hi => ?_, fun hi => ?_, ?_⟩, fun img hop hpage => ?_⟩
  · have herase : completeErase s = ended .blank .storeDone := by simp only [completeErase, hop]; rfl
    exact congrArg _ herase
  · rw [hsave, completeSave_eq hop, (hintact img).2 hi]
    rfl
  · rw [hsave, completeSave_eq hop, Bool.eq_false_iff.2 (mt (hintact img).1 hi)]
    rfl
  · rw [hsave, completeSave_eq hop]
    rfl
  · intro worked placed
    have hload : completeLoad s = ({ placed with store.op := none } : State).raise .storeDone none p.val := by
      simp only [completeLoad, hop, hpage]
      rfl
    exact congrArg _ hload

/-! ## The end of the start-up scan (R165, R166) -/

theorem mem_generations {pages : Vector Page 8} {g : Nat} :
    g ∈ pages.toList.filterMap Page.generation? ↔ ∃ p : Slot, (pages.get p).generation? = some g := by
  simp only [List.mem_filterMap, Vector.mem_toList_iff, Vector.mem_iff_getElem]
  constructor
  · rintro ⟨_, ⟨n, hn, rfl⟩, hg⟩
    exact ⟨⟨n, hn⟩, hg⟩
  · rintro ⟨p, hg⟩
    exact ⟨_, ⟨p.val, p.isLt, rfl⟩, hg⟩

theorem greatestGeneration_eq_some {pages : Vector Page 8} {p : Slot} {g : Nat}
    (hp : (pages.get p).generation? = some g) (hmax : ∀ r g', (pages.get r).generation? = some g' → g' ≤ g) :
    greatestGeneration pages = some g := by
  unfold greatestGeneration
  rw [List.max?_eq_some_iff]
  refine ⟨mem_generations.2 ⟨p, hp⟩, fun g' hg' => ?_⟩
  obtain ⟨r, hr⟩ := mem_generations.1 hg'
  exact hmax r g' hr

theorem greatestGeneration_eq_none {pages : Vector Page 8} (h : ∀ p, (pages.get p).generation? = none) :
    greatestGeneration pages = none := by
  unfold greatestGeneration
  rw [List.max?_eq_none_iff, List.eq_nil_iff_forall_not_mem]
  intro g hg
  obtain ⟨p, hp⟩ := mem_generations.1 hg
  simp [h p] at hp

theorem choosePage_eq_none {pages : Vector Page 8} (h : ∀ p, (pages.get p).generation? = none) :
    choosePage pages = none := by
  unfold choosePage
  rw [greatestGeneration_eq_none h]
  rfl

/-- R158, R165: with generations that differ, the scan chooses the page of the greatest one. -/
theorem choosePage_eq_some (hholds : s.StoreHolds) {p : Slot} {img : Image} (hp : s.page p = .valid img)
    (hmax : ∀ r g, (s.page r).generation? = some g → g ≤ img.generation) :
    choosePage s.store.pages = some (p, img) := by
  obtain ⟨-, -, hdistinct, -⟩ := hholds
  have hgen : (s.page p).generation? = some img.generation := by rw [hp]; rfl
  have hgreatest : greatestGeneration s.store.pages = some img.generation := greatestGeneration_eq_some hgen hmax
  have hp' : s.store.pages.get p = .valid img := hp
  unfold choosePage
  rw [hgreatest, Option.bind_some]
  cases hfound : allSlots.findSome? _ with
  | none =>
    have hnone := List.findSome?_eq_none_iff.1 hfound p (mem_allSlots p)
    simp [hp'] at hnone
  | some choice =>
    obtain ⟨r, -, hr⟩ := List.exists_of_findSome?_eq_some hfound
    split at hr
    · next img' hpage =>
      split at hr
      · next hsame =>
        have hgen' : (s.page r).generation? = some img.generation := by rw [State.page, hpage, ← hsame]; rfl
        obtain rfl : p = r := by
          by_contra hne
          exact hdistinct p r hne (by simp [hgen]) (hgen.trans hgen'.symm)
        rw [hp'] at hpage
        cases hpage
        exact hr.symm
      · simp at hr
    · simp at hr
    · simp at hr

theorem port_openSlots_foldl (l : List Slot) : ∀ s : State, l.Nodup → ∀ i, (l.foldl State.openSlot s).port i =
    if i ∈ l ∧ (s.policy i).enabled = true then (s.port i).opened s.nextProbe else s.port i := by
  induction l with
  | nil => simp
  | cons j rest ih =>
    intro s hn i
    obtain ⟨hj, hrest⟩ := List.nodup_cons.1 hn
    have hpol : (s.openSlot j).policy i = s.policy i := by rw [openSlot_eq]; split <;> rfl
    have hprobe : (s.openSlot j).nextProbe = s.nextProbe := by rw [openSlot_eq]; split <;> rfl
    rw [List.foldl_cons, ih _ hrest i, hpol, hprobe, openSlot_eq]
    by_cases hi : i = j
    · subst hi
      by_cases he : (s.policy i).enabled = true <;> simp [hj, he]
    · have hport : ∀ p, (s.setPort j p).port i = s.port i := fun p => port_setPort_other s j i p hi
      by_cases he : (s.policy j).enabled = true <;> simp [hi, he, hport]

/-- R56, R166: records and items put in force, the page they come from, and the first figures, in a RUNNING part. -/
def State.figured (s : State) (records : Vector Policy 8) (items : LiveItems) (page : Option Slot) : State :=
  { firstFigures
      { s with pol := ⟨records, records, false, items⟩, store.noImage := page.isNone, store.loadedPage := page } with
    part := .running }

/-- R166: the state at the scan's end, from the records and items put in force and the page they come from. -/
def State.scanned (s : State) (records : Vector Policy 8) (items : LiveItems) (page : Option Slot) : State :=
  (allSlots.foldl State.openSlot (s.figured records items page)).raise .restarted none
    ((page.map (·.val)).getD 65535)

theorem endScan_of_some {p : Slot} {img : Image} (hpart : s.part = .starting)
    (h : choosePage s.store.pages = some (p, img)) : endScan s = s.scanned img.policies img.items (some p) := by
  unfold endScan
  rw [if_pos hpart, h]
  rfl

theorem endScan_of_none (hpart : s.part = .starting) (h : choosePage s.store.pages = none) :
    endScan s = s.scanned (Vector.replicate 8 defaultPolicy) defaultItems none := by
  unfold endScan
  rw [if_pos hpart, h]
  rfl

/-- R56: with no power committed the watermark flag is set exactly where a high mark of 0 stands under a limit. -/
theorem watermarkValue_zero (b : BudgetMonitor) : watermarkValue b 0 = decide (b.highMark = 0 ∧ 0 < b.limit) := by
  by_cases h : b.highMark = 0 ∧ 0 < b.limit <;> simp [watermarkValue, h]

theorem scanned_bud (hbud : s.bud = resetBudget) (hadm : s.adm = resetAdmission) (records : Vector Policy 8)
    (items : LiveItems) (page : Option Slot) : (s.scanned records items page).bud =
      let limit := min items.budgetCap items.safeBudget - items.reserve
      ⟨none, none, none, true, min items.budgetCap items.safeBudget, limit, limit * items.highMark / 100,
        limit * items.lowMark / 100, false, decide (limit * items.highMark / 100 = 0 ∧ 0 < limit)⟩ := by
  have hworked : workOut { s.bud with stale := true } items = workOut { resetBudget with stale := true } items := by
    rw [hbud]
  unfold State.scanned
  obtain ⟨ports, hopened⟩ := openSlots_foldl_rest allSlots (s.figured records items page)
  rw [raise_bud, hopened]
  simp only [State.figured, firstFigures, hworked, hadm]
  rw [show resetAdmission.committed = 0 from rfl, watermarkValue_zero]
  rfl

theorem scanned_rest (s : State) (records : Vector Policy 8) (items : LiveItems) (page : Option Slot) :
    ∃ ports, s.scanned records items page =
      ({ s with
        part := .running, ports := ports, bud := (s.scanned records items page).bud
        pol := ⟨records, records, false, items⟩
        store.noImage := page.isNone, store.loadedPage := page } : State).raise .restarted none
          ((page.map (·.val)).getD 65535) := by
  obtain ⟨ports, hopened⟩ := openSlots_foldl_rest allSlots (s.figured records items page)
  refine ⟨ports, ?_⟩
  unfold State.scanned
  rw [hopened]
  rfl

theorem port_scanned (s : State) (records : Vector Policy 8) (items : LiveItems) (page : Option Slot) (i : Slot) :
    (s.scanned records items page).port i =
      if (records.get i).enabled = true then (s.port i).opened (s.now + items.probeInterval) else s.port i := by
  have hopened := port_openSlots_foldl allSlots (s.figured records items page) (by decide) i
  have hpolicy : (s.figured records items page).policy i = records.get i := rfl
  have hport : (s.figured records items page).port i = s.port i := rfl
  simp only [mem_allSlots, true_and, hpolicy, hport] at hopened
  unfold State.scanned
  rw [port_congr (raise_ports _ _ _ _), hopened]
  rfl

/-- Settles O54: the page that the scan chooses, and the state that its records and items give. -/
theorem scanEndStartsThePart : Obligations.ScanEndStartsThePart := by
  intro s hpart hclean hholds opened starts
  obtain ⟨hports, -, hadm, hbud, -, -, -, hop, -⟩ := hclean hpart
  have hexec : exec .startUpScanEnd s = .next (endScan s) := rfl
  have hstarts : ∀ records items page, starts records items page (s.scanned records items page) := by
    intro records items page
    have hfigures := scanned_bud hbud hadm records items page
    have hopened : ∀ i, (s.scanned records items page).port i = opened items records i := fun i => by
      rw [port_scanned, hports i]
      rfl
    obtain ⟨ports, hrest⟩ := scanned_rest s records items page
    refine ⟨?_, ?_, ?_, ?_, ?_, ?_, hfigures, hopened, ?_, ?_, ?_, ?_, ?_, ?_, ?_, ?_, ?_⟩
    case refine_6 => rw [hrest]; exact hop
    case refine_7 => rw [hrest]; cases page <;> rfl
    all_goals rw [hrest]; rfl
  rw [hexec]
  refine ⟨fun p img hp hmax => ?_, fun hnone => ?_⟩
  · exact ⟨_, congrArg _ (endScan_of_some hpart (choosePage_eq_some hholds hp hmax)), hstarts _ _ _⟩
  · exact ⟨_, congrArg _ (endScan_of_none hpart (choosePage_eq_none hnone)), hstarts _ _ _⟩

end Sys2Proof.Machine

/-!
# Rounds, their victims, and the forced commands

Which contract a round takes next, and which contracts no round touches. A round is a run of acts that ends because each
act leaves fewer contracts, or fewer HELD ones (`exhaust`); from the equation of each act follows where a round ends.
After that come the deadlines that police a shed, and the forced commands of the Management Unit.
-/

namespace Sys2Proof.Machine

-- The theorems are checked one after another: side by side, each would hold a thread of its own while it waits.
set_option Elab.async false

open Config

variable {s t u : State}

/-! ## The victim of a search -/

/-- What a search over contracts in table order may answer: none only where none is eligible, and else an eligible
contract that goes before all older ones, and before which no younger one goes. -/
def Chosen (eligible : Contract → Bool) (after : Contract → Contract → Bool) (l : List Contract) :
    Option Contract → Prop
  | none => ∀ d ∈ l, eligible d = false
  | some c => eligible c = true ∧ ∃ older younger, l = older ++ c :: younger
      ∧ (∀ d ∈ older, eligible d = true → after c d = true) ∧ ∀ d ∈ younger, eligible d = true → after d c = false

section Search

variable {eligible : Contract → Bool} {after : Contract → Contract → Bool} {l : List Contract} {best : Option Contract}
  {c : Contract}

/-- One more contract that the search does not take. -/
theorem Chosen.skip (h : Chosen eligible after l best)
    (hc : eligible c = true → ∃ b, best = some b ∧ after c b = false) : Chosen eligible after (l ++ [c]) best := by
  cases best with
  | none =>
    have hn : eligible c = false := by
      by_contra he
      obtain ⟨b, hb, -⟩ := hc (by simpa using he)
      cases hb
    intro d hd
    rcases List.mem_append.1 hd with hd | hd
    · exact h d hd
    · rwa [List.mem_singleton.1 hd]
  | some b =>
    obtain ⟨he, older, younger, rfl, holder, hyounger⟩ := h
    refine ⟨he, older, younger ++ [c], by simp, holder, fun d hd hde => ?_⟩
    rcases List.mem_append.1 hd with hd | hd
    · exact hyounger d hd hde
    · obtain rfl := List.mem_singleton.1 hd
      obtain ⟨b', hb, hafter⟩ := hc hde
      rwa [Option.some.inj hb]

/-- One more contract that the search takes. -/
theorem Chosen.take (h : Chosen eligible after l best) (hc : eligible c = true)
    (htrans : ∀ x y z, after x y = true → after y z = true → after x z = true)
    (htotal : ∀ x y, after x y = false → after y x = true) (hbest : ∀ b, best = some b → after c b = true) :
    Chosen eligible after (l ++ [c]) (some c) := by
  refine ⟨hc, l, [], rfl, fun d hd hde => ?_, by simp⟩
  cases best with
  | none => exact absurd hde (by simp [h d hd])
  | some b =>
    obtain ⟨-, older, younger, rfl, holder, hyounger⟩ := h
    have hcb := hbest b rfl
    rcases List.mem_append.1 hd with hd | hd
    · exact htrans _ _ _ hcb (holder d hd hde)
    · rcases List.mem_cons.1 hd with rfl | hd
      · exact hcb
      · exact htrans _ _ _ hcb (htotal _ _ (hyounger d hd hde))

/-- What a search has found after one more contract. -/
def better (eligible : Contract → Bool) (after : Contract → Contract → Bool) (best : Option Contract) (c : Contract) :
    Option Contract :=
  if eligible c then
    match best with
    | none => some c
    | some b => if after c b then some c else some b
  else best

theorem pick_cons : pick eligible after (c :: l) best = pick eligible after l (better eligible after best c) := rfl

theorem Chosen.better (h : Chosen eligible after l best)
    (htrans : ∀ x y z, after x y = true → after y z = true → after x z = true)
    (htotal : ∀ x y, after x y = false → after y x = true) :
    Chosen eligible after (l ++ [c]) (better eligible after best c) := by
  unfold Machine.better
  split
  · next hc =>
    cases best with
    | none => exact h.take hc htrans htotal fun b hb => by cases hb
    | some b =>
      dsimp only
      split
      · next hcb => exact h.take hc htrans htotal fun b' hb => by rwa [← Option.some.inj hb]
      · next hcb => exact h.skip fun _ => ⟨b, rfl, by simpa using hcb⟩
  · next hc => exact h.skip fun he => absurd he hc

/-- A search that goes on from where one has come to. -/
theorem chosen_pick (htrans : ∀ x y z, after x y = true → after y z = true → after x z = true)
    (htotal : ∀ x y, after x y = false → after y x = true) (rest : List Contract) :
    ∀ (l : List Contract) (best : Option Contract), Chosen eligible after l best →
      Chosen eligible after (l ++ rest) (pick eligible after rest best) := by
  induction rest with
  | nil => exact fun l best h => by simpa [pick] using h
  | cons c rest ih =>
    intro l best h
    have hrest := ih (l ++ [c]) _ (h.better htrans htotal)
    rw [List.append_assoc, List.singleton_append] at hrest
    exact hrest

theorem pick_eq_none_iff : pick eligible after l best = none ↔ best = none ∧ ∀ c ∈ l, eligible c = false := by
  induction l generalizing best with
  | nil => simp [pick]
  | cons c r ih =>
    have hbetter : better eligible after best c = none ↔ best = none ∧ eligible c = false := by
      cases best with
      | none => simp [better]
      | some b =>
        unfold better
        (repeat' split) <;> simp
    rw [pick_cons, ih, hbetter]
    simp [and_assoc]

/-- A search finds none exactly where none is eligible. -/
theorem pick_eq_none : pick eligible after l none = none ↔ ∀ c ∈ l, eligible c = false :=
  pick_eq_none_iff.trans (and_iff_right rfl)

end Search

theorem withdrawBefore_iff {a b : Contract} : s.withdrawBefore a b = true ↔ s.contractClass a ≤ s.contractClass b := by
  simp [State.withdrawBefore]

/-- R61: lowest class first, then highest shed rank, then youngest. -/
theorem shedBefore_iff {a b : Contract} : s.shedBefore a b = true ↔ s.contractClass a < s.contractClass b
    ∨ (s.contractClass a = s.contractClass b ∧ (s.policy b.slot).shedRank ≤ (s.policy a.slot).shedRank) := by
  simp [State.shedBefore]

theorem shedBefore_eq_false {a b : Contract} : s.shedBefore a b = false ↔ s.contractClass b < s.contractClass a
    ∨ (s.contractClass b = s.contractClass a ∧ (s.policy a.slot).shedRank < (s.policy b.slot).shedRank) := by
  rw [← Bool.not_eq_true, shedBefore_iff]
  omega

theorem chosen_shedBefore (eligible : Contract → Bool) :
    Chosen eligible s.shedBefore s.adm.contracts (pick eligible s.shedBefore s.adm.contracts none) := by
  refine chosen_pick (fun x y z hxy hyz => ?_) (fun x y hxy => ?_) s.adm.contracts [] none (by simp [Chosen])
  · rw [shedBefore_iff] at *
    omega
  · rw [shedBefore_eq_false] at hxy
    rw [shedBefore_iff]
    omega

theorem chosen_withdrawBefore (eligible : Contract → Bool) :
    Chosen eligible s.withdrawBefore s.adm.contracts (pick eligible s.withdrawBefore s.adm.contracts none) := by
  refine chosen_pick (fun x y z hxy hyz => ?_) (fun x y hxy => ?_) s.adm.contracts [] none (by simp [Chosen])
  · rw [withdrawBefore_iff] at *
    omega
  · rw [← Bool.not_eq_true, withdrawBefore_iff] at hxy
    rw [withdrawBefore_iff]
    omega

/-- Settles O34: each of the three searches goes by a total order, by which `Chosen` says what it finds. -/
theorem victimsInOrder : Obligations.VictimsInOrder := by
  intro s bound offers sheds cuts rank first
  have hfirst : ∀ (eligible : Contract → Bool) (p : Contract → Prop), (∀ c, eligible c = true ↔ p c) →
      first p (pick eligible s.shedBefore s.adm.contracts none) := by
    intro eligible p hp
    have hchosen := chosen_shedBefore (s := s) eligible
    cases hv : pick eligible s.shedBefore s.adm.contracts none with
    | none =>
      rw [hv] at hchosen
      exact fun c hc hpc => by simpa [(hp c).2 hpc] using hchosen c hc
    | some c =>
      rw [hv] at hchosen
      obtain ⟨he, older, younger, hl, holder, hyounger⟩ := hchosen
      exact ⟨(hp c).1 he, older, younger, hl, fun d hd hpd => shedBefore_iff.1 (holder d hd ((hp d).2 hpd)),
        fun d hd hpd => shedBefore_eq_false.1 (hyounger d hd ((hp d).2 hpd))⟩
  refine ⟨?_, hfirst _ sheds fun c => ?_, hfirst _ cuts fun c => ?_⟩
  · have hoffers : ∀ c : Contract, (c.isOffered && decide (s.contractClass c < bound)) = true ↔ offers c := fun c => by
      simp [offers]
    have hchosen := chosen_withdrawBefore (s := s) fun c => c.isOffered && decide (s.contractClass c < bound)
    split
    · next hv =>
      rw [← State.withdrawVictim, hv] at hchosen
      exact fun c hc hoc => by simpa [(hoffers c).2 hoc] using hchosen c hc
    · next c hv =>
      rw [← State.withdrawVictim, hv] at hchosen
      obtain ⟨he, older, younger, hl, holder, hyounger⟩ := hchosen
      refine ⟨(hoffers c).1 he, older, younger, hl, fun d hd hod => ?_, fun d hd hod => ?_⟩
      · exact withdrawBefore_iff.1 (holder d hd ((hoffers d).2 hod))
      · have hlt := hyounger d hd ((hoffers d).2 hod)
        rw [← Bool.not_eq_true, withdrawBefore_iff] at hlt
        omega
  · simp [sheds, and_assoc]
  · simp [cuts]

/-! ## What one act does to the table -/

theorem withdrawVictim_spec {bound : Nat} {c : Contract} (h : s.withdrawVictim bound = some c) :
    c ∈ s.adm.contracts ∧ c.isOffered = true ∧ s.contractClass c < bound := by
  rcases pick_spec h with ⟨hm, he⟩ | hn
  · simp only [Bool.and_eq_true, decide_eq_true_eq] at he
    exact ⟨hm, he⟩
  · cases hn

theorem cutVictim_spec {bound : Nat} {c : Contract} (h : s.cutVictim bound = some c) :
    c ∈ s.adm.contracts ∧ c.granted = true ∧ s.contractClass c < bound := by
  rcases pick_spec h with ⟨hm, he⟩ | hn
  · simp only [Bool.and_eq_true, decide_eq_true_eq] at he
    exact ⟨hm, he⟩
  · cases hn

theorem withdrawVictim_eq_none {bound : Nat} : s.withdrawVictim bound = none ↔
    ∀ c ∈ s.adm.contracts, s.contractClass c < bound → c.isOffered = false := by
  refine pick_eq_none.trans (forall₂_congr fun c _ => ?_)
  cases c.isOffered <;> simp

theorem shedVictim_eq_none {bound : Nat} : s.shedVictim bound = none ↔
    ∀ c ∈ s.adm.contracts, s.contractClass c < bound → c.isHeld = true → c.amount ≤ (s.policy c.slot).floor := by
  refine pick_eq_none.trans (forall₂_congr fun c _ => ?_)
  cases c.isHeld <;> simp

theorem cutVictim_eq_none {bound : Nat} : s.cutVictim bound = none ↔
    ∀ c ∈ s.adm.contracts, s.contractClass c < bound → c.granted = false := by
  refine pick_eq_none.trans (forall₂_congr fun c _ => ?_)
  cases c.granted <;> simp

theorem withdraw_contracts (i : Slot) (g : Byte) :
    (s.withdraw i g).adm.contracts = s.adm.contracts.eraseP (Contract.isOf i g) := by
  simp only [State.withdraw, State.closeContract, order_adm, evalFlags_adm, State.removeContract]
  split
  · next h => exact (List.eraseP_of_forall_not (List.find?_eq_none.1 h)).symm
  · rfl

theorem cut_contracts {i : Slot} (reason : CutReason) (h : (s.port i).state = .present) :
    (s.cut i reason).adm.contracts = s.adm.contracts.filter (·.slot != i) := by
  unfold State.cut
  rw [if_pos h]
  simp only [raise_adm, onPort_adm, order_adm, State.teardown, evalFlags_adm]
  rfl

/-- A shed changes the one contract, where it stands in the table. -/
theorem issueShed_split {i : Slot} {g : Byte} {gr : Grant} {target : Nat} {forced : Bool} {c : Contract}
    (hc : s.contract? i g = some c) (hst : c.state = .held gr) :
    ∃ older younger sh, s.adm.contracts = older ++ c :: younger
      ∧ (s.issueShed i g target forced).adm.contracts = older ++ { c with state := .shedding gr sh } :: younger := by
  obtain ⟨hp, older, younger, hl, holder⟩ := List.find?_eq_some_iff_append.1 hc
  refine ⟨older, younger, ⟨target, s.now + (s.policy i).shedWindow, forced⟩, hl, ?_⟩
  rw [issueShed_held hc hst, order_adm]
  dsimp only
  rw [hl, modifyFirst_append (fun x hx => by simpa using holder x hx) hp]

/-! ## The contracts that no round touches (R59, R76) -/

/-- The classes from `bound` on keep their contracts, and every slot its class. -/
structure State.Spares (bound : Nat) (s t : State) : Prop where
  pol : t.pol = s.pol
  stays : ∀ c ∈ s.adm.contracts, bound ≤ s.contractClass c → c ∈ t.adm.contracts

theorem contractClass_congr (h : t.pol = s.pol) (c : Contract) : t.contractClass c = s.contractClass c := by
  simp [State.contractClass, policy_congr h]

theorem contractClass_of_slot {c d : Contract} (h : c.slot = d.slot) : s.contractClass c = s.contractClass d := by
  simp [State.contractClass, h]

namespace State.Spares

variable {bound bound' : Nat}

theorem refl (bound : Nat) (s : State) : s.Spares bound s := ⟨rfl, fun _ h _ => h⟩

theorem trans (h : s.Spares bound t) (k : t.Spares bound u) : s.Spares bound u :=
  ⟨k.pol.trans h.pol, fun c hc hle => k.stays c (h.stays c hc hle) (by rwa [contractClass_congr h.pol])⟩

theorem mono (h : s.Spares bound t) (hle : bound ≤ bound') : s.Spares bound' t :=
  ⟨h.pol, fun c hc hc' => h.stays c hc (hle.trans hc')⟩

/-- A change of the contracts of one slot, of a lower class. -/
theorem of_slot {v : Contract} (hpol : t.pol = s.pol) (hv : s.contractClass v < bound)
    (h : ∀ c ∈ s.adm.contracts, c.slot ≠ v.slot → c ∈ t.adm.contracts) : s.Spares bound t :=
  ⟨hpol, fun c hc hle => h c hc fun hs => by
    have := contractClass_of_slot (s := s) hs
    omega⟩

end State.Spares

theorem not_isOf_of_slot {i : Slot} {g : Byte} {c : Contract} (h : c.slot ≠ i) : ¬ c.isOf i g = true :=
  fun hc => h (congrArg Prod.fst (Contract.isOf_iff.1 hc))

theorem mem_modifyFirst_of_not {α : Type} {p : α → Bool} {f : α → α} {l : List α} {a : α} (h : a ∈ l)
    (hp : ¬ p a = true) : a ∈ modifyFirst p f l := by
  induction l with
  | nil => cases h
  | cons b r ih =>
    unfold modifyFirst
    rcases List.mem_cons.1 h with rfl | h
    · simp [hp]
    · split
      · exact List.mem_cons_of_mem _ h
      · exact List.mem_cons_of_mem _ (ih h)

section Spared

variable {bound : Nat} {c : Contract}

theorem spares_withdraw (g : Byte) (h : s.contractClass c < bound) : s.Spares bound (s.withdraw c.slot g) :=
  .of_slot (kept_withdraw _ _).pol h fun _ hd hne => by
    rw [withdraw_contracts]
    exact (List.mem_eraseP_of_neg (not_isOf_of_slot hne)).2 hd

theorem spares_issueShed (g : Byte) (target : Nat) (forced : Bool) (h : s.contractClass c < bound) :
    s.Spares bound (s.issueShed c.slot g target forced) :=
  .of_slot (kept_issueShed _ _ _ _).pol h fun d hd hne => by
    rcases issueShed_contracts (s := s) c.slot g target forced with he | ⟨f, he⟩ <;> rw [he]
    · exact hd
    · exact mem_modifyFirst_of_not hd (not_isOf_of_slot hne)

theorem spares_cut (reason : CutReason) (h : s.contractClass c < bound) : s.Spares bound (s.cut c.slot reason) := by
  by_cases hp : (s.port c.slot).state = .present
  · refine .of_slot (kept_cut _ _).pol h fun d hd hne => ?_
    rw [cut_contracts reason hp]
    exact List.mem_filter.2 ⟨hd, by simpa using hne⟩
  · rw [State.cut, if_neg hp]
    exact .refl bound s

theorem spares_preemptWithdraw (bound fuel : Nat) :
    ∀ (need : Nat) (s : State), s.Spares bound (preemptWithdraw bound fuel need s).1 := by
  induction fuel with
  | zero => exact fun _ s => .refl bound s
  | succ fuel ih =>
    intro need s
    unfold preemptWithdraw
    split
    · exact .refl bound s
    · split
      · exact .refl bound s
      · next hv => exact (spares_withdraw _ (withdrawVictim_spec hv).2.2).trans (ih _ _)

theorem spares_preemptShed (bound fuel : Nat) :
    ∀ (need : Nat) (s : State), s.Spares bound (preemptShed bound fuel need s) := by
  induction fuel with
  | zero => exact fun _ s => .refl bound s
  | succ fuel ih =>
    intro need s
    unfold preemptShed
    split
    · exact .refl bound s
    · split
      · exact .refl bound s
      · next hv => exact (spares_issueShed _ _ _ (shedVictim_spec hv).2.2.1).trans (ih _ _)

/-- R76: a preempt round takes from lower classes only. -/
theorem spares_preemptRound (r : PreemptRecord) : s.Spares r.cls.code (preemptRound r s).1 :=
  (spares_preemptWithdraw _ _ _ _).trans (spares_preemptShed _ _ _ _)

theorem code_le_budgetBound (cls : SlotClass) : cls.code ≤ budgetBound := by cases cls <;> decide

/-- A walk only adds contracts (R37). -/
theorem spares_passWalk (l : List QueueEntry) : ∀ s : State, s.Spares budgetBound (passWalk l s).1 := by
  induction l with
  | nil => exact fun s => .refl _ s
  | cons e rest ih =>
    intro s
    cases hstep : s.passStep e with
    | full =>
      rw [passWalk_full hstep]
      exact .refl _ s
    | passed =>
      rw [passWalk_passed hstep]
      exact ih s
    | taken amount =>
      rw [passWalk_taken hstep]
      refine .trans ⟨(kept_grantEntry e amount).pol, fun c hc _ => ?_⟩ (ih _)
      rw [grantEntry_contracts]
      exact List.mem_append_left _ hc
    | blocked =>
      rw [passWalk_blocked hstep]
      exact .refl _ s

theorem spares_handOff (e : QueueEntry) : s.Spares budgetBound (handOff e s).1 := by
  cases hm : s.mayRequest e with
  | false =>
    rw [handOff_of_silent hm]
    exact .refl _ s
  | true =>
    by_cases hr : s.eng.record = none
    · rw [handOff_of_no_record hm hr]
      refine .trans (t := s.requesting e) ⟨rfl, fun _ hc _ => hc⟩ ?_
      exact (spares_preemptRound _).mono (code_le_budgetBound _)
    · rw [handOff_of_record hm hr]
      exact ⟨rfl, fun _ hc _ => hc⟩

theorem spares_admissionPass (fuel : Nat) : ∀ s : State, s.Spares budgetBound (admissionPass fuel s) := by
  induction fuel with
  | zero => exact fun s => .refl _ s
  | succ fuel ih =>
    intro s
    have hwalk := spares_passWalk s.adm.queue s
    cases hw : passWalk s.adm.queue s with
    | mk v r =>
    rw [hw] at hwalk
    cases r with
    | none =>
      rw [admissionPass_of_none hw]
      exact hwalk
    | some e =>
      rw [admissionPass_of_some hw]
      have hhand := hwalk.trans (spares_handOff e)
      split
      · exact hhand.trans (ih _)
      · exact hhand

theorem spares_budgetWithdraw (fuel : Nat) : ∀ s : State, s.Spares budgetBound (budgetWithdraw fuel s).1 := by
  induction fuel with
  | zero => exact fun s => .refl _ s
  | succ fuel ih =>
    intro s
    unfold budgetWithdraw
    split
    · exact .refl _ s
    · split
      · exact .refl _ s
      · next hv => exact (spares_withdraw _ (withdrawVictim_spec hv).2.2).trans (ih _)

theorem spares_budgetShed (fuel : Nat) : ∀ s : State, s.Spares budgetBound (budgetShed fuel s) := by
  induction fuel with
  | zero => exact fun s => .refl _ s
  | succ fuel ih =>
    intro s
    unfold budgetShed
    split
    · exact .refl _ s
    · split
      · exact .refl _ s
      · next hv => exact (spares_issueShed _ _ _ (shedVictim_spec hv).2.2.1).trans (ih _)

theorem spares_budgetCut (fuel : Nat) : ∀ s : State, s.Spares budgetBound (budgetCut fuel s).1 := by
  induction fuel with
  | zero => exact fun s => .refl _ s
  | succ fuel ih =>
    intro s
    unfold budgetCut
    split
    · exact .refl _ s
    · split
      · exact .refl _ s
      · next hv => exact (spares_cut _ (cutVictim_spec hv).2.2).trans (ih _)

/-- R59: a budget round, with the pass that closes it, takes from the classes below CRITICAL only. -/
theorem spares_budgetRound (urgency : Urgency) : s.Spares budgetBound (budgetRound urgency s) := by
  have hacts : s.Spares budgetBound (budgetActs urgency s).1 := by
    have hw := spares_budgetWithdraw s.adm.contracts.length s
    cases urgency with
    | normal => exact hw.trans (spares_budgetShed _ _)
    | immediate => exact hw.trans (spares_budgetCut _ _)
  unfold budgetRound
  dsimp only
  split
  · exact hacts.trans (spares_admissionPass _ _)
  · exact hacts

end Spared

/-- Settles O35: every act of a round is on a slot of a class below the round's bound, and so touches no contract from
the bound on. -/
theorem higherClassesAreSpared : Obligations.HigherClassesAreSpared := by
  intro s c hc
  refine ⟨fun hcritical urgency => (spares_budgetRound urgency).stays c hc ?_, fun r hle =>
    (spares_preemptRound r).stays c hc hle⟩
  exact hcritical.ge

/-! ## Runs of acts -/

/-- Acts taken one after another until none is left, or the fuel is spent. -/
def exhaust {α : Type} (next : α → Option α) : Nat → α → α
  | 0, a => a
  | fuel + 1, a =>
    match next a with
    | none => a
    | some b => exhaust next fuel b

section Exhaust

variable {α : Type} {next : α → Option α} {law : α → Prop} {size : α → Nat} {a b : α} {fuel fuel' : Nat}

theorem exhaust_of_none (h : next a = none) (fuel : Nat) : exhaust next fuel a = a := by
  cases fuel <;> simp [exhaust, h]

/-- Where each act leaves less, any fuel that covers what there is does as well as any other. -/
theorem exhaust_fuel (hnext : ∀ a b, law a → next a = some b → law b ∧ size b < size a) (ha : law a)
    (h : size a ≤ fuel) (h' : size a ≤ fuel') : exhaust next fuel a = exhaust next fuel' a := by
  induction fuel generalizing a fuel' with
  | zero =>
    have hn : next a = none := by
      cases hb : next a with
      | none => rfl
      | some b =>
        have := (hnext a b ha hb).2
        omega
    rw [exhaust_of_none hn, exhaust_of_none hn]
  | succ fuel ih =>
    cases hb : next a with
    | none => rw [exhaust_of_none hb, exhaust_of_none hb]
    | some b =>
      obtain ⟨hlaw, hlt⟩ := hnext a b ha hb
      obtain ⟨fuel', rfl⟩ := Nat.exists_eq_add_one_of_ne_zero (by omega : fuel' ≠ 0)
      simp only [exhaust, hb]
      exact ih hlaw (by omega) (by omega)

/-- The first act, and the run that goes on from it with the fuel it needs itself. -/
theorem exhaust_of_some (hnext : ∀ a b, law a → next a = some b → law b ∧ size b < size a) (ha : law a)
    (hb : next a = some b) (h : size a ≤ fuel) (h' : size b ≤ fuel') :
    exhaust next fuel a = exhaust next fuel' b := by
  obtain ⟨hlaw, hlt⟩ := hnext a b ha hb
  obtain ⟨fuel, rfl⟩ := Nat.exists_eq_add_one_of_ne_zero (by omega : fuel ≠ 0)
  simp only [exhaust, hb]
  exact exhaust_fuel hnext hlaw (by omega) h'

end Exhaust

/-! ## What each act leaves to the next -/

/-- The contracts that a shed can still be issued on. -/
def State.heldCount (s : State) : Nat := s.adm.contracts.countP Contract.isHeld

theorem heldCount_le_length : s.heldCount ≤ s.adm.contracts.length := List.countP_le_length

/-- R102, of the contracts. -/
def State.ContractsPresent (s : State) : Prop := ∀ c ∈ s.adm.contracts, (s.port c.slot).state = .present

theorem onPort_state (i j : Slot) {f : SlotPort → SlotPort} (hf : ∀ p, (f p).state = p.state) :
    ((s.onPort i f).port j).state = (s.port j).state := by
  by_cases hj : j = i
  · subst hj
    rw [port_onPort_self, hf]
  · rw [port_onPort_other _ _ _ _ hj]

theorem order_state (i j : Slot) (o : Order) : ((s.order i o).port j).state = (s.port j).state :=
  onPort_state i j fun p => by (repeat' split) <;> rfl

theorem evalEnable_state (i j : Slot) : ((s.evalEnable i).port j).state = (s.port j).state :=
  onPort_state i j fun _ => rfl

theorem evalFlags_port (i : Slot) : (evalFlags s).port i = s.port i := port_congr evalFlags_ports i

theorem withdraw_state (i j : Slot) (g : Byte) : ((s.withdraw i g).port j).state = (s.port j).state := by
  rw [State.withdraw, order_state, State.closeContract, evalFlags_port]
  unfold State.removeContract
  split
  · rfl
  · exact evalEnable_state i j

theorem issueShed_state (i j : Slot) (g : Byte) (target : Nat) (forced : Bool) :
    ((s.issueShed i g target forced).port j).state = (s.port j).state := by
  unfold State.issueShed
  split
  · rfl
  · split
    · exact order_state i j _
    · rfl

/-- A cut touches no other slot's state (R88). -/
theorem cut_state_other {i j : Slot} (reason : CutReason) (h : j ≠ i) :
    ((s.cut i reason).port j).state = (s.port j).state := by
  unfold State.cut
  split
  · dsimp only
    rw [port_congr (raise_ports _ _ _ _), port_onPort_other _ _ _ _ h, order_state, State.teardown, evalFlags_port]
    refine (evalEnable_state i j).trans ?_
    exact onPort_state (s := s) (f := fun p => { p with enable := false }) i j fun _ => rfl
  · rfl

theorem length_withdraw {c : Contract} (hc : c ∈ s.adm.contracts) :
    (s.withdraw c.slot c.tag).adm.contracts.length + 1 = s.adm.contracts.length := by
  rw [withdraw_contracts]
  exact length_eraseP_of_mem_of hc (Contract.isOf_self c)

theorem heldCount_withdraw_le (i : Slot) (g : Byte) : (s.withdraw i g).heldCount ≤ s.heldCount := by
  unfold State.heldCount
  rw [withdraw_contracts]
  exact List.eraseP_sublist.countP_le

theorem contractsPresent_withdraw (i : Slot) (g : Byte) (h : s.ContractsPresent) :
    (s.withdraw i g).ContractsPresent := by
  intro c hc
  rw [withdraw_contracts] at hc
  rw [withdraw_state]
  exact h c (List.eraseP_subset hc)

/-- A round's shed of a victim against a need (R61, R62). -/
def State.relieved (s : State) (c : Contract) (need : Nat) : State :=
  s.issueShed c.slot c.tag (c.amount - s.reliefFor c need) false

section Shed

variable {bound need : Nat} {c : Contract}

/-- The table after a round's shed: the victim alone is changed, from HELD to SHEDDING. -/
theorem relieved_split (hk : s.KeysSound) (hv : s.shedVictim bound = some c) : ∃ older younger gr sh,
    s.adm.contracts = older ++ c :: younger ∧ c.state = .held gr
      ∧ (s.relieved c need).adm.contracts = older ++ { c with state := .shedding gr sh } :: younger := by
  obtain ⟨hm, hheld, -, -⟩ := shedVictim_spec hv
  obtain ⟨gr, hst⟩ := isHeld_iff.1 hheld
  obtain ⟨older, younger, sh, hl, hr⟩ := issueShed_split (contract?_of_mem hk hm) hst
  exact ⟨older, younger, gr, sh, hl, hst, hr⟩

theorem length_relieved (hk : s.KeysSound) (hv : s.shedVictim bound = some c) :
    (s.relieved c need).adm.contracts.length = s.adm.contracts.length := by
  obtain ⟨older, younger, gr, sh, hl, -, hr⟩ := relieved_split (need := need) hk hv
  simp [hl, hr]

theorem heldCount_relieved (hk : s.KeysSound) (hv : s.shedVictim bound = some c) :
    (s.relieved c need).heldCount + 1 = s.heldCount := by
  obtain ⟨older, younger, gr, sh, hl, hst, hr⟩ := relieved_split (need := need) hk hv
  simp [State.heldCount, hl, hr, Contract.isHeld, hst]
  omega

theorem keysSound_relieved (hk : s.KeysSound) (hv : s.shedVictim bound = some c) (hn : need ≠ 0) :
    (s.relieved c need).KeysSound := keysSound_of_moves (moves_shedVictim hv hn) hk

theorem contractsPresent_relieved (hk : s.KeysSound) (hv : s.shedVictim bound = some c) (h : s.ContractsPresent) :
    (s.relieved c need).ContractsPresent := by
  obtain ⟨older, younger, gr, sh, hl, -, hr⟩ := relieved_split (need := need) hk hv
  intro d hd
  rw [State.relieved, issueShed_state]
  rw [hr] at hd
  rcases List.mem_append.1 hd with hd | hd
  · exact h d (by simp [hl, hd])
  · rcases List.mem_cons.1 hd with rfl | hd
    · exact h c (by simp [hl])
    · exact h d (by simp [hl, hd])

/-- A shed makes no OFFERED contract (R60, R61). -/
theorem withdrawVictim_relieved (hk : s.KeysSound) (hv : s.shedVictim bound = some c) {b : Nat}
    (h : s.withdrawVictim b = none) : (s.relieved c need).withdrawVictim b = none := by
  obtain ⟨older, younger, gr, sh, hl, -, hr⟩ := relieved_split (need := need) hk hv
  rw [withdrawVictim_eq_none] at h ⊢
  intro d hd hlt
  rw [contractClass_congr (show (s.relieved c need).pol = s.pol from (kept_issueShed _ _ _ _).pol)] at hlt
  rw [hr] at hd
  rcases List.mem_append.1 hd with hd | hd
  · exact h d (by simp [hl, hd]) hlt
  · rcases List.mem_cons.1 hd with rfl | hd
    · rfl
    · exact h d (by simp [hl, hd]) hlt

/-- A round's shed, written out (R61, R62). -/
theorem relieved_eq {gr : Grant} (hk : s.KeysSound) (hv : s.shedVictim bound = some c) (hst : c.state = .held gr) :
    s.relieved c need =
      ({ s with
        adm.contracts := modifyFirst (Contract.isOf c.slot c.tag)
          (fun d => { d with state := .shedding gr ⟨d.amount - s.reliefFor c need,
            s.now + (s.policy c.slot).shedWindow, false⟩ }) s.adm.contracts
        eng.pledged := s.eng.pledged + s.reliefFor c need } : State).order c.slot
          (.shed c.tag (c.amount - s.reliefFor c need) (s.policy c.slot).shedWindow) := by
  have hc := contract?_of_mem hk (shedVictim_spec hv).1
  have hcontracts : modifyFirst (Contract.isOf c.slot c.tag)
        (fun d => { d with state := .shedding gr ⟨c.amount - s.reliefFor c need,
          s.now + (s.policy c.slot).shedWindow, false⟩ }) s.adm.contracts =
      modifyFirst (Contract.isOf c.slot c.tag)
        (fun d => { d with state := .shedding gr ⟨d.amount - s.reliefFor c need,
          s.now + (s.policy c.slot).shedWindow, false⟩ }) s.adm.contracts := by
    refine modifyFirst_congr fun d hd => ?_
    obtain rfl : c = d := Option.some.inj (hc.symm.trans hd)
    rfl
  have hpledged : c.amount - (c.amount - s.reliefFor c need) = s.reliefFor c need := by
    unfold State.reliefFor
    omega
  rw [State.relieved, issueShed_held hc hst, hcontracts, hpledged]

end Shed

section Cut

variable {bound : Nat} {c : Contract}

theorem length_cut_lt (reason : CutReason) (hp : s.ContractsPresent) (hc : c ∈ s.adm.contracts) :
    (s.cut c.slot reason).adm.contracts.length < s.adm.contracts.length := by
  rw [cut_contracts reason (hp c hc)]
  exact List.length_filter_lt_length_iff_exists.2 ⟨c, hc, by simp⟩

theorem heldCount_cut_le (reason : CutReason) (hp : s.ContractsPresent) (hc : c ∈ s.adm.contracts) :
    (s.cut c.slot reason).heldCount ≤ s.heldCount := by
  unfold State.heldCount
  rw [cut_contracts reason (hp c hc)]
  exact List.filter_sublist.countP_le

theorem contractsPresent_cut (reason : CutReason) (hp : s.ContractsPresent) (hc : c ∈ s.adm.contracts) :
    (s.cut c.slot reason).ContractsPresent := by
  intro d hd
  rw [cut_contracts reason (hp c hc)] at hd
  obtain ⟨hd, hne⟩ := List.mem_filter.1 hd
  rw [cut_state_other reason (by simpa using hne)]
  exact hp d hd

theorem withdrawVictim_cut (reason : CutReason) (hp : s.ContractsPresent) (hc : c ∈ s.adm.contracts)
    (h : s.withdrawVictim bound = none) : (s.cut c.slot reason).withdrawVictim bound = none := by
  rw [withdrawVictim_eq_none] at h ⊢
  intro d hd hlt
  rw [contractClass_congr (kept_cut _ _).pol] at hlt
  rw [cut_contracts reason (hp c hc)] at hd
  exact h d (List.mem_of_mem_filter hd) hlt

end Cut

/-! ## The sheds and the cuts of a round as runs of acts -/

/-- The next shed of a budget round (R61). -/
def State.nextShed (s : State) : Option State :=
  if s.need = 0 then none else (s.shedVictim budgetBound).map fun c => s.relieved c s.need

/-- The next cut of a budget round (R71). -/
def State.nextCut (s : State) : Option State :=
  if s.need = 0 then none else (s.cutVictim budgetBound).map fun c => s.cut c.slot .immediate

/-- The next shed of a preempt round, with the need it leaves (R76). -/
def nextRelief (bound : Nat) (x : Nat × State) : Option (Nat × State) :=
  if x.1 = 0 then none
  else (x.2.shedVictim bound).map fun c => (x.1 - x.2.reliefFor c x.1, x.2.relieved c x.1)

theorem budgetShed_eq_exhaust (fuel : Nat) : ∀ s : State, budgetShed fuel s = exhaust State.nextShed fuel s := by
  induction fuel with
  | zero => exact fun _ => rfl
  | succ fuel ih =>
    intro s
    rw [budgetShed, exhaust, State.nextShed]
    split
    · rfl
    · cases s.shedVictim budgetBound with
      | none => rfl
      | some c => exact ih _

theorem budgetCut_eq_exhaust (fuel : Nat) : ∀ s : State, (budgetCut fuel s).1 = exhaust State.nextCut fuel s := by
  induction fuel with
  | zero => exact fun _ => rfl
  | succ fuel ih =>
    intro s
    rw [budgetCut, exhaust, State.nextCut]
    split
    · rfl
    · cases s.cutVictim budgetBound with
      | none => rfl
      | some c => exact ih _

theorem preemptShed_eq_exhaust (bound fuel : Nat) : ∀ (need : Nat) (s : State),
    preemptShed bound fuel need s = (exhaust (nextRelief bound) fuel (need, s)).2 := by
  induction fuel with
  | zero => exact fun _ _ => rfl
  | succ fuel ih =>
    intro need s
    rw [preemptShed, exhaust, nextRelief]
    dsimp only
    split
    · rfl
    · cases s.shedVictim bound with
      | none => rfl
      | some c => exact ih _ _

theorem nextShed_lt (s t : State) (hk : s.KeysSound) (h : s.nextShed = some t) :
    t.KeysSound ∧ t.heldCount < s.heldCount := by
  unfold State.nextShed at h
  split at h
  · cases h
  · next hn =>
    obtain ⟨c, hv, rfl⟩ := Option.map_eq_some_iff.1 h
    exact ⟨keysSound_relieved hk hv hn, Nat.lt_of_succ_le (heldCount_relieved hk hv).le⟩

theorem nextRelief_lt (bound : Nat) (x y : Nat × State) (hk : x.2.KeysSound) (h : nextRelief bound x = some y) :
    y.2.KeysSound ∧ y.2.heldCount < x.2.heldCount := by
  unfold nextRelief at h
  split at h
  · cases h
  · next hn =>
    obtain ⟨c, hv, rfl⟩ := Option.map_eq_some_iff.1 h
    exact ⟨keysSound_relieved hk hv hn, Nat.lt_of_succ_le (heldCount_relieved hk hv).le⟩

theorem nextCut_lt (s t : State) (hp : s.ContractsPresent) (h : s.nextCut = some t) :
    t.ContractsPresent ∧ t.adm.contracts.length < s.adm.contracts.length := by
  unfold State.nextCut at h
  split at h
  · cases h
  · obtain ⟨c, hv, rfl⟩ := Option.map_eq_some_iff.1 h
    have hm := (cutVictim_spec hv).1
    exact ⟨contractsPresent_cut _ hp hm, length_cut_lt _ hp hm⟩

/-! ## The acts of a budget round, one by one (R58 to R63, R71) -/

section Acts

variable {urgency : Urgency} {c : Contract}

theorem budgetWithdraw_of_none (h : s.need = 0 ∨ s.withdrawVictim budgetBound = none) (fuel : Nat) :
    budgetWithdraw fuel s = (s, false) := by
  cases fuel with
  | zero => rfl
  | succ fuel => rcases h with h | h <;> simp [budgetWithdraw, h]

/-- A round that withdraws nothing sheds or cuts. -/
theorem budgetActs_of_no_withdrawal (h : s.need = 0 ∨ s.withdrawVictim budgetBound = none) :
    budgetActs urgency s = match urgency with
      | .normal => (budgetShed s.adm.contracts.length s, false)
      | .immediate => budgetCut s.adm.contracts.length s := by
  unfold budgetActs
  rw [budgetWithdraw_of_none h]
  cases urgency with
  | normal => rfl
  | immediate => simp

theorem budgetShed_of_none (h : s.nextShed = none) (fuel : Nat) : budgetShed fuel s = s := by
  rw [budgetShed_eq_exhaust, exhaust_of_none h]

theorem budgetCut_of_none (h : s.need = 0 ∨ s.cutVictim budgetBound = none) (fuel : Nat) :
    budgetCut fuel s = (s, false) := by
  cases fuel with
  | zero => rfl
  | succ fuel => rcases h with h | h <;> simp [budgetCut, h]

/-- A round with no need does nothing. -/
theorem budgetActs_of_no_need (h : s.need = 0) : budgetActs urgency s = (s, false) := by
  rw [budgetActs_of_no_withdrawal (.inl h)]
  cases urgency with
  | normal => exact congrArg (·, false) (budgetShed_of_none (by simp [State.nextShed, h]) _)
  | immediate => exact budgetCut_of_none (.inl h) _

/-- R60: one withdrawal, and the round that goes on from it. -/
theorem budgetActs_withdraw (hn : s.need ≠ 0) (hv : s.withdrawVictim budgetBound = some c) :
    budgetActs urgency s = ((budgetActs urgency (s.withdraw c.slot c.tag)).1, true) := by
  have hw : budgetWithdraw s.adm.contracts.length s =
      ((budgetWithdraw (s.withdraw c.slot c.tag).adm.contracts.length (s.withdraw c.slot c.tag)).1, true) := by
    rw [← length_withdraw (withdrawVictim_spec hv).1]
    simp [budgetWithdraw, hn, hv]
  unfold budgetActs
  rw [hw]
  cases urgency <;> rfl

/-- R61: one shed, and the round that goes on from it. -/
theorem budgetActs_shed (hk : s.KeysSound) (hn : s.need ≠ 0) (hw : s.withdrawVictim budgetBound = none)
    (hv : s.shedVictim budgetBound = some c) : budgetActs .normal s = budgetActs .normal (s.relieved c s.need) := by
  have hnext : s.nextShed = some (s.relieved c s.need) := by simp [State.nextShed, hn, hv]
  rw [budgetActs_of_no_withdrawal (.inr hw), budgetActs_of_no_withdrawal (.inr (withdrawVictim_relieved hk hv hw))]
  dsimp only
  rw [budgetShed_eq_exhaust, budgetShed_eq_exhaust,
    exhaust_of_some nextShed_lt hk hnext heldCount_le_length heldCount_le_length]

/-- R71: one cut, and the round that goes on from it. -/
theorem budgetActs_cut (hp : s.ContractsPresent) (hn : s.need ≠ 0) (hw : s.withdrawVictim budgetBound = none)
    (hv : s.cutVictim budgetBound = some c) :
    budgetActs .immediate s = ((budgetActs .immediate (s.cut c.slot .immediate)).1, true) := by
  have hm := (cutVictim_spec hv).1
  have hnext : s.nextCut = some (s.cut c.slot .immediate) := by simp [State.nextCut, hn, hv]
  rw [budgetActs_of_no_withdrawal (.inr hw), budgetActs_of_no_withdrawal (.inr (withdrawVictim_cut _ hp hm hw))]
  dsimp only
  refine Prod.ext ?_ ?_
  · rw [budgetCut_eq_exhaust, exhaust_of_some nextCut_lt hp hnext le_rfl le_rfl, ← budgetCut_eq_exhaust]
  · obtain ⟨fuel, hfuel⟩ := Nat.exists_eq_add_one_of_ne_zero (List.length_pos_of_mem hm).ne'
    simp [hfuel, budgetCut, hn, hv]

/-- R61: with nothing to withdraw and nothing to shed, a NORMAL round does nothing. -/
theorem budgetActs_normal_of_none (hw : s.withdrawVictim budgetBound = none) (hv : s.shedVictim budgetBound = none) :
    budgetActs .normal s = (s, false) := by
  rw [budgetActs_of_no_withdrawal (.inr hw)]
  exact congrArg (·, false) (budgetShed_of_none (by simp [State.nextShed, hv]) _)

/-- R71: with nothing to withdraw and nothing to cut, an IMMEDIATE round does nothing. -/
theorem budgetActs_immediate_of_none (hw : s.withdrawVictim budgetBound = none)
    (hv : s.cutVictim budgetBound = none) : budgetActs .immediate s = (s, false) := by
  rw [budgetActs_of_no_withdrawal (.inr hw)]
  exact budgetCut_of_none (.inr hv) _

/-- No OFFERED contract is left to a round, and none that it could shed or cut. -/
def State.NoVictim (s : State) (urgency : Urgency) : Prop :=
  s.withdrawVictim budgetBound = none ∧ match urgency with
    | .normal => s.shedVictim budgetBound = none
    | .immediate => s.cutVictim budgetBound = none

/-- R59 to R63, R71: a round ends with no need or with no victim. Each act leaves fewer contracts, or as many and fewer
HELD ones. -/
theorem budgetActs_ends (urgency : Urgency) (hk : s.KeysSound) (hp : s.ContractsPresent) :
    (budgetActs urgency s).1.need = 0 ∨ (budgetActs urgency s).1.NoVictim urgency := by
  induction hsize : s.adm.contracts.length + s.heldCount using Nat.strong_induction_on generalizing s with
  | _ n ih =>
    by_cases hn : s.need = 0
    · rw [budgetActs_of_no_need hn]
      exact .inl hn
    cases hw : s.withdrawVictim budgetBound with
    | some c =>
      have hlength := length_withdraw (withdrawVictim_spec hw).1
      have hheld := heldCount_withdraw_le (s := s) c.slot c.tag
      rw [budgetActs_withdraw hn hw]
      exact ih _ (by omega) (keysSound_of_moves (moves_withdraw _ _) hk) (contractsPresent_withdraw _ _ hp) rfl
    | none =>
      cases urgency with
      | normal =>
        cases hv : s.shedVictim budgetBound with
        | some c =>
          have hlength := length_relieved (need := s.need) hk hv
          have hheld := heldCount_relieved (need := s.need) hk hv
          rw [budgetActs_shed hk hn hw hv]
          exact ih _ (by omega) (keysSound_relieved hk hv hn) (contractsPresent_relieved hk hv hp) rfl
        | none =>
          rw [budgetActs_normal_of_none hw hv]
          exact .inr ⟨hw, hv⟩
      | immediate =>
        cases hv : s.cutVictim budgetBound with
        | some c =>
          have hm := (cutVictim_spec hv).1
          have hlength := length_cut_lt .immediate hp hm
          have hheld := heldCount_cut_le .immediate hp hm
          rw [budgetActs_cut hp hn hw hv]
          exact ih _ (by omega) (keysSound_of_moves (moves_cut _ _) hk) (contractsPresent_cut _ hp hm) rfl
        | none =>
          rw [budgetActs_immediate_of_none hw hv]
          exact .inr ⟨hw, hv⟩

end Acts

/-! ## The acts of a preempt round, one by one (R76) -/

section Preempt

variable {r : PreemptRecord} {c : Contract}

theorem preemptWithdraw_of_no_victim {bound need : Nat} (h : need = 0 ∨ s.withdrawVictim bound = none) (fuel : Nat) :
    preemptWithdraw bound fuel need s = (s, need, false) := by
  cases fuel with
  | zero => rfl
  | succ fuel => rcases h with h | h <;> simp [preemptWithdraw, h]

/-- A preempt round that withdraws nothing sheds. -/
theorem preemptRound_of_no_withdrawal (h : r.need = 0 ∨ s.withdrawVictim r.cls.code = none) :
    preemptRound r s = (preemptShed r.cls.code s.adm.contracts.length r.need s, false) := by
  unfold preemptRound
  rw [preemptWithdraw_of_no_victim h]

theorem preemptShed_of_none {bound need : Nat} (h : need = 0 ∨ s.shedVictim bound = none) (fuel : Nat) :
    preemptShed bound fuel need s = s := by
  cases fuel with
  | zero => rfl
  | succ fuel => rcases h with h | h <;> simp [preemptShed, h]

theorem preemptRound_of_no_need (h : r.need = 0) : preemptRound r s = (s, false) := by
  rw [preemptRound_of_no_withdrawal (.inl h), preemptShed_of_none (.inl h)]

/-- R76 step 1: one withdrawal, and the round that goes on from it against what is left of the need. -/
theorem preemptRound_withdraw (hn : r.need ≠ 0) (hv : s.withdrawVictim r.cls.code = some c) : preemptRound r s =
    ((preemptRound { r with need := r.need - c.amount } (s.withdraw c.slot c.tag)).1, true) := by
  unfold preemptRound
  rw [← length_withdraw (withdrawVictim_spec hv).1]
  simp [preemptWithdraw, hn, hv]

/-- R76 step 2: one shed, and the round that goes on from it against what is left of the need. -/
theorem preemptRound_shed (hk : s.KeysSound) (hn : r.need ≠ 0) (hw : s.withdrawVictim r.cls.code = none)
    (hv : s.shedVictim r.cls.code = some c) : preemptRound r s =
      preemptRound { r with need := r.need - s.reliefFor c r.need } (s.relieved c r.need) := by
  have hnext : nextRelief r.cls.code (r.need, s) = some (r.need - s.reliefFor c r.need, s.relieved c r.need) := by
    simp [nextRelief, hn, hv]
  rw [preemptRound_of_no_withdrawal (.inr hw), preemptRound_of_no_withdrawal
      (r := { r with need := r.need - s.reliefFor c r.need }) (.inr (withdrawVictim_relieved hk hv hw)),
    preemptShed_eq_exhaust, preemptShed_eq_exhaust, exhaust_of_some (law := fun x => x.2.KeysSound)
      (size := fun x => x.2.heldCount) (nextRelief_lt _) hk hnext heldCount_le_length heldCount_le_length]

theorem preemptRound_of_none (hw : s.withdrawVictim r.cls.code = none) (hv : s.shedVictim r.cls.code = none) :
    preemptRound r s = (s, false) := by
  rw [preemptRound_of_no_withdrawal (.inr hw), preemptShed_of_none (.inr hv)]

end Preempt

/-- A round that leaves no victim, in the words of the classes and records it began with. -/
theorem contracts_of_noVictim {urgency : Urgency} (hpol : t.pol = s.pol) : t.NoVictim urgency →
    ∀ c ∈ t.adm.contracts, s.contractClass c < budgetBound → c.isOffered = false ∧ match urgency with
      | .normal => c.isHeld = true → c.amount ≤ (s.policy c.slot).floor
      | .immediate => c.granted = false := by
  rintro ⟨hw, hv⟩ c hc hlt
  rw [← contractClass_congr hpol] at hlt
  refine ⟨withdrawVictim_eq_none.1 hw c hc hlt, ?_⟩
  cases urgency with
  | normal =>
    dsimp only
    rw [← policy_congr hpol]
    exact shedVictim_eq_none.1 hv c hc hlt
  | immediate => exact cutVictim_eq_none.1 hv c hc hlt

/-- Settles O33: act by act, and the end of a round by the contracts that each act leaves. -/
theorem roundsEndWithoutNeedOrVictim : Obligations.RoundsEndWithoutNeedOrVictim := by
  intro s urgency r _ hqueue hpresence ends need withdrawn relief shed
  have hk := (queueOrdered_iff.1 hqueue).1
  have hp : s.ContractsPresent := hpresence.1
  have hshed : ∀ {bound n : Nat} {c : Contract} {gr : Grant}, s.shedVictim bound = some c → c.state = .held gr →
      s.relieved c n = shed c gr (relief c n) := fun hv hst => relieved_eq hk hv hst
  refine ⟨rfl, ?_, ?_, ?_⟩
  · split
    · next hn => exact budgetActs_of_no_need hn
    next hn =>
    split
    · next c hw => exact budgetActs_withdraw hn hw
    · next hw =>
      split
      · next c hv => exact fun gr hst => (budgetActs_shed hk hn hw hv).trans (congrArg _ (hshed hv hst))
      · next hv => exact budgetActs_normal_of_none hw hv
    · next hw =>
      split
      · next c hv => exact budgetActs_cut hp hn hw hv
      · next hv => exact budgetActs_immediate_of_none hw hv
  · rcases budgetActs_ends urgency hk hp with hn | hv
    · exact .inl (Nat.sub_eq_zero_iff_le.1 hn)
    · exact .inr (contracts_of_noVictim (kept_budgetActs urgency).pol hv)
  · split
    · next hn => exact preemptRound_of_no_need hn
    next hn =>
    split
    · next c hw => exact preemptRound_withdraw hn hw
    · next hw =>
      split
      · next c hv => exact fun gr hst => (preemptRound_shed hk hn hw hv).trans (congrArg _ (hshed hv hst))
      · next hv => exact preemptRound_of_none hw hv

/-! ## The deadlines of a shed and of a report -/

theorem takeSilence_notify {i : Slot} {g : Byte} (h : (s.policy i).action = .notify) : takeSilence i g s =
    (s.onContract i g (Contract.onGrant fun gr => { gr with reportDeadline := s.reportDeadline i })).raise
      .violation (some (.slot i)) 0 := by
  have hviolate : ∀ u : State, u.pol = s.pol → violate i .silence 0 u = u.raise .violation (some (.slot i)) 0 := by
    intro u hu
    have hu' := (congrArg Policy.action (policy_congr hu i)).trans h
    simp [violate, hu']
  simp only [takeSilence, h]
  exact hviolate _ (onContract_pol _ _ _ _)

theorem takeSilence_cut {i : Slot} {g : Byte} (h : (s.policy i).action = .cut) :
    takeSilence i g s = cutAndFollow i .silence (s.raise .violation (some (.slot i)) 0) := by
  simp only [takeSilence, violate, h]

/-- Settles O27. -/
theorem missedDeadlinesArePoliced : Obligations.MissedDeadlinesArePoliced := by
  intro s i g d c ha hc u p report
  refine ⟨fun gr sh hst hd => ?_, fun hd => ?_⟩
  · have hdeadline : c.shedDeadline? = some d := by simp [Contract.shedDeadline?, hst, hd]
    exact congrArg _ (expireContract_of_deadline ha hc hdeadline)
  · have hexec : exec (.reportDeadline i g) s = .next (takeSilence i g u) :=
      congrArg _ (expireContract_of_deadline ha hc hd)
    split
    · next haction => exact hexec.trans (congrArg _ (takeSilence_notify (s := u) haction))
    · next haction => exact hexec.trans (congrArg _ (takeSilence_cut (s := u) haction))

/-! ## The forced commands -/

section Forced

variable {slot g : Byte} {i : Slot} {c : Contract} {target : Nat}

theorem slotOf?_of_lt (h : slot.toNat < 8) : slotOf? slot = some ⟨slot.toNat, h⟩ := dif_pos h

theorem slotOf?_of_not_lt (h : ¬ slot.toNat < 8) : slotOf? slot = none := dif_neg h

theorem runForceShed_badSlot (h : slotOf? slot = none) : runForceShed slot g target s = naked .badSlot s := by
  simp only [runForceShed, h]

theorem runForceShed_noContract (h : slotOf? slot = some i) (hc : s.contract? i g = none) :
    runForceShed slot g target s = naked .noContract s := by
  simp only [runForceShed, h, hc]

theorem runForceShed_wrongState (h : slotOf? slot = some i) (hc : s.contract? i g = some c) (hst : c.isHeld = false) :
    runForceShed slot g target s = naked .wrongState s := by
  simp [runForceShed, h, hc, hst]

theorem runForceShed_held {gr : Grant} (h : slotOf? slot = some i) (hc : s.contract? i g = some c)
    (hst : c.state = .held gr) : runForceShed slot g target s =
      if c.amount ≤ target then naked .badValue s else acked (s.issueShed i g target true) := by
  simp [runForceShed, h, hc, isHeld_iff.2 ⟨gr, hst⟩]

theorem runForceClose_badSlot (h : slotOf? slot = none) : runForceClose slot g s = naked .badSlot s := by
  simp only [runForceClose, h]

theorem runForceClose_noContract (h : slotOf? slot = some i) (hc : s.contract? i g = none) :
    runForceClose slot g s = naked .noContract s := by
  simp only [runForceClose, h, hc]

theorem runForceClose_contract (h : slotOf? slot = some i) (hc : s.contract? i g = some c) : runForceClose slot g s =
    acked (afterClose c.isShedding ((s.closeContract i g).order i (.closed g .forced))) := by
  simp only [runForceClose, h, hc]

theorem runForceCut_badSlot (h : slotOf? slot = none) : runForceCut slot s = naked .badSlot s := by
  simp only [runForceCut, h]

theorem runForceCut_slot (h : slotOf? slot = some i) : runForceCut slot s =
    if (s.port i).state = .present then acked (cutAndFollow i .forced s) else naked .wrongState s := by
  simp only [runForceCut, h]

end Forced

/-- Settles O49: each command by its checks in order; the shed of a HELD contract is written out by `issueShed_held`. -/
theorem forcedCommandsAct : Obligations.ForcedCommandsAct := by
  intro s q slot g target hx u shed close cut
  have hshed : ∀ {t : State} {outcome : Settle}, runForceShed slot g target.toNat u = (t, outcome) →
      shed (t.settled q outcome) := fun hr => congrArg _ (takeCommand_settled hx hr)
  have hclose : ∀ {t : State} {outcome : Settle}, runForceClose slot g u = (t, outcome) →
      close (t.settled q outcome) := fun hr => congrArg _ (takeCommand_settled hx hr)
  have hcut : ∀ {t : State} {outcome : Settle}, runForceCut slot u = (t, outcome) →
      cut (t.settled q outcome) := fun hr => congrArg _ (takeCommand_settled hx hr)
  split
  · next hlt =>
    intro i
    have hi : slotOf? slot = some i := slotOf?_of_lt hlt
    refine ⟨?_, ?_⟩
    · split
      · next hc => exact ⟨hshed (runForceShed_noContract hi hc), hclose (runForceClose_noContract hi hc)⟩
      · next c hc =>
        intro closed window
        refine ⟨hclose (runForceClose_contract (s := u) hi hc), ?_⟩
        split
        · next gr hst =>
          have hrun := runForceShed_held (s := u) (target := target.toNat) hi hc hst
          split
          · next hle => exact hshed (hrun.trans (if_pos hle))
          · next hgt =>
            rw [if_neg hgt, issueShed_held (s := u) hc hst] at hrun
            exact hshed hrun
        · next hst => exact hshed (runForceShed_wrongState (s := u) hi hc (by simp [Contract.isHeld, hst]))
        · next hst => exact hshed (runForceShed_wrongState (s := u) hi hc (by simp [Contract.isHeld, hst]))
    · have hrun := runForceCut_slot (s := u) hi
      split
      · next hp => exact hcut (hrun.trans (if_pos hp))
      · next hp => exact hcut (hrun.trans (if_neg hp))
  · next hge =>
    have hi := slotOf?_of_not_lt hge
    exact ⟨hshed (runForceShed_badSlot hi), hclose (runForceClose_badSlot hi), hcut (runForceCut_badSlot hi)⟩

end Sys2Proof.Machine

/-!
# Policing a slot

A report that brings no compliance is judged in one of three ways, a cut of a PRESENT slot goes through its stages, and
a penalty hold ends in PRESENT or MISMATCH.
-/

namespace Sys2Proof.Machine

-- The theorems are checked one after another: side by side, each would hold a thread of its own while it waits.
set_option Elab.async false

variable {s : State} {i : Slot}

/-! ## The judgement of a report (R80 to R83) -/

section Reports

variable {g : Byte} {c : Contract} {measured detail : Nat} {reason : CutReason}

/-- The state that a judged report leaves: the contract's over-count set, its report deadline restarted or discarded
(R81). -/
def State.overCounted (s : State) (i : Slot) (g : Byte) (n : Nat) : State :=
  s.onContract i g (Contract.onGrant fun gr => { gr with overCount := n, reportDeadline := s.reportDeadline i })

theorem violate_notify (h : (s.policy i).action = .notify) :
    violate i reason detail s = s.raise .violation (some (.slot i)) detail := by
  simp only [violate, h]

theorem violate_cut (h : (s.policy i).action = .cut) :
    violate i reason detail s = cutAndFollow i reason (s.raise .violation (some (.slot i)) detail) := by
  simp only [violate, h]

/-- R69: a report above the target of a SHEDDING contract, or on a HELD one, goes straight to the Draw Monitor. -/
theorem takeReport_judged (hc : s.contract? i g = some c) (hg : c.granted = true)
    (habove : ∀ gr sh, c.state = .shedding gr sh → sh.target < measured) :
    takeReport i g measured s = judgeReport i g measured s := by
  cases hst : c.state with
  | offered d => simp [Contract.granted, hst] at hg
  | held gr => simp [takeReport, hc, hst]
  | shedding gr sh => simp [takeReport, hc, hst, Nat.not_le.2 (habove gr sh hst)]

theorem judgeReport_within (hc : s.contract? i g = some c)
    (hle : measured ≤ allowance (s.policy i).tolerance c.amount) :
    judgeReport i g measured s = s.overCounted i g 0 := by
  simp only [judgeReport, hc, if_pos hle]
  rfl

theorem judgeReport_below_debounce (hc : s.contract? i g = some c)
    (hover : ¬ measured ≤ allowance (s.policy i).tolerance c.amount)
    (hlt : c.overCount + 1 < (s.policy i).debounce) :
    judgeReport i g measured s = s.overCounted i g (c.overCount + 1) := by
  simp only [judgeReport, hc, if_neg hover, if_pos hlt]
  rfl

theorem judgeReport_at_debounce (hc : s.contract? i g = some c)
    (hover : ¬ measured ≤ allowance (s.policy i).tolerance c.amount)
    (hge : ¬ c.overCount + 1 < (s.policy i).debounce) :
    judgeReport i g measured s = violate i .overdraw measured (s.overCounted i g 0) := by
  simp only [judgeReport, hc, if_neg hover, if_neg hge]
  rfl

end Reports

/-- Settles O25: the report reaches the Draw Monitor, which judges it in one of three ways. -/
theorem reportsAreJudged : Obligations.ReportsAreJudged := by
  intro s i g x c p report counted violation h hc hg habove
  have hc' := contract?_onHearing hc
  have hexec : exec (.report i g x) s = .next (judgeReport i g x.toNat (s.onHearing i)) := by
    rw [exec_report h, takeReport_judged hc' hg habove]
  have hcounted : ∀ n, (s.onHearing i).overCounted i g n = counted n := fun _ => rfl
  rw [hexec]
  split
  · next hle => rw [judgeReport_within (s := s.onHearing i) hc' hle, hcounted]
  next hover =>
  split
  · next hlt => rw [judgeReport_below_debounce (s := s.onHearing i) hc' hover hlt, hcounted]
  next hge =>
  rw [judgeReport_at_debounce (s := s.onHearing i) hc' hover hge, hcounted]
  split
  · next haction => rw [violate_notify (s := counted 0) haction]
  · next haction => rw [violate_cut (s := counted 0) haction]

/-! ## Teardown and cut (R24, R87 to R89) -/

section Cuts

variable {reason : CutReason}

/-- The stages of a carried-out cut, up to its order (R88). -/
def State.cutOrdered (s : State) (i : Slot) (reason : CutReason) : State :=
  ((s.deassert i).teardown i).order i (.cut reason)

theorem kept_cutOrdered : s.Kept (s.cutOrdered i reason) :=
  ((kept_onPort i _).trans (kept_teardown i)).trans (kept_order i _)

theorem cut_of_present (h : (s.port i).state = .present) : s.cut i reason =
    ((s.cutOrdered i reason).setPort i
      { (s.cutOrdered i reason).port i with
        state := .penalty, penaltyEnd := some (s.now + 1000 * (s.policy i).penaltyHold) }).raise
      .cut (some (.slot i)) reason.code := by
  have hkept : s.Kept (s.cutOrdered i reason) := kept_cutOrdered
  rw [State.cut, if_pos h, ← hkept.now, ← Kept_policy hkept i]
  rfl

theorem cut_of_not_present (h : (s.port i).state ≠ .present) : s.cut i reason = s := if_neg h

theorem cutAndFollow_of_held (h : (s.port i).state = .present) (hheld : s.heldBy i ≠ 0) :
    cutAndFollow i reason s = afterClose (s.sheds i) (s.cut i reason) := if_pos ⟨h, hheld⟩

theorem cutAndFollow_of_nothing (h : (s.port i).state ≠ .present ∨ s.heldBy i = 0) :
    cutAndFollow i reason s = s.cut i reason := if_neg (by tauto)

theorem heldBy_ne_zero_of_sheds (h : s.sheds i = true) : s.heldBy i ≠ 0 := by
  obtain ⟨c, hc, -⟩ := List.any_eq_true.1 h
  have hpos := List.length_pos_of_mem hc
  unfold State.heldBy
  omega

end Cuts

/-- Settles O28: the teardown by `removeSlot_eq`, the cut by its stages, and what follows by what the slot held. -/
theorem cutAndTeardownByStages : Obligations.CutAndTeardownByStages := by
  intro s i reason
  refine ⟨congrArg evalFlags removeSlot_eq, ?_, fun hp => ?_⟩
  · intro hp u cut
    have hcut : s.cut i reason = cut := cut_of_present hp
    refine ⟨hcut, fun hheld => ?_, fun hheld hsheds => ?_, fun hsheds => ?_⟩
    · rw [cutAndFollow_of_nothing (.inr hheld), hcut]
    · rw [cutAndFollow_of_held hp hheld, hsheds, afterClose_false, hcut]
    · rw [cutAndFollow_of_held hp (heldBy_ne_zero_of_sheds hsheds), hsheds, afterClose_true, hcut]
  · exact ⟨cut_of_not_present hp, (cutAndFollow_of_nothing (.inl hp)).trans (cut_of_not_present hp)⟩

/-! ## The end of a penalty hold (R91) -/

/-- A slot taken for PRESENT without an event, its enable output worked out afresh (R91, R103). -/
theorem onPort_present_evalEnable {f : SlotPort → SlotPort} (h : (f (s.port i)).state = .present) :
    (s.onPort i f).evalEnable i = s.setPort i { f (s.port i) with enable := s.holdsGrant i } := by
  rw [onPort_evalEnable, enableValue_of_present (by rwa [port_onPort_self])]
  rfl

theorem accepts_declared_iff {x : Declared} (hx : (s.port i).declared = some x) :
    (s.policy i).accepts (s.port i).declared = true ↔ s.takesClass i x.cls := by
  rw [hx, accepts_iff, State.takesClass, eq_comm (b := x.cls)]
  simp

theorem endPenalty_of_deadline {d : Time} (ha : s.active = true) (hst : (s.port i).state = .penalty)
    (hd : (s.port i).penaltyEnd = some d) : endPenalty i s =
      let u := (s.reach d).setPort i { s.port i with penaltyEnd := none }
      if (s.policy i).accepts (s.port i).declared then
        (u.onPort i fun p => { p with state := .present }).evalEnable i
      else u.enterKnown i .mismatch .slotMismatch := by
  simp only [endPenalty, hd, if_pos (And.intro ha hst)]
  rw [port_onPort_self]
  rfl

/-- Settles O40: by whether the slot's record takes the declared class. -/
theorem penaltyHoldEnds : Obligations.PenaltyHoldEnds := by
  intro s i d x ha hst hd hx u p
  have hexec : exec (.penaltyEndTime i) s = .next (endPenalty i s) := rfl
  have hdetail : declaredDetail (s.port i).declared = x.cls.toNat := by rw [hx, declaredDetail_eq]
  rw [hexec, endPenalty_of_deadline ha hst hd, ← hdetail, ← accepts_declared_iff hx]
  refine ⟨fun htakes => ?_, fun htakes => ?_⟩
  · rw [if_pos htakes, onPort_present_evalEnable rfl, port_setPort_self, setPort_setPort]
    rfl
  · rw [if_neg htakes, enterMismatch_eq, port_setPort_self, setPort_setPort]
    rfl

end Sys2Proof.Machine

/-!
# The slot ports

What a PRESENT frame does by its slot's state, the probes with their answer windows and the loss of a slot, PORT_RESET,
where an order takes its place, and what a slot's transmitter sends.
-/

namespace Sys2Proof.Machine

-- The theorems are checked one after another: side by side, each would hold a thread of its own while it waits.
set_option Elab.async false

open Config

variable {s : State} {i : Slot}

/-! ## PRESENT frames (R97, R98, R101) -/

section Present

variable {d : Declared}

/-- A PRESENT frame whose bytes change nothing but the receiver: it answers no open window. -/
def State.hunting (s : State) (i : Slot) : SlotPort := { s.port i with receiver := huntingReceiver }

/-- The port after the second answer in a row, but for the state that its record then gives it (R98). -/
def State.joinedPort (s : State) (i : Slot) (d : Declared) : SlotPort :=
  { s.port i with
    receiver := huntingReceiver, joinCount := 2, missCount := 0, declared := some d, answerDeadline := none,
    probeDeadline := some (s.now + s.pol.items.probeInterval) }

theorem receives_slot (ha : s.active = true) (hst : (s.port i).state ≠ .disabled) : s.receives (.slot i) = true := by
  simp [State.receives, ha, hst]

theorem hunt_slot : s.hunt (.slot i) = s.setPort i (s.hunting i) := rfl

/-- R97, R98: with no open window a PRESENT frame of a VACANT or JOINING slot has no effect. -/
theorem takePresent_unasked (ha : s.active = true) (hst : (s.port i).state = .vacant ∨ (s.port i).state = .joining)
    (hw : (s.port i).answerDeadline = none) : takePresent i d s = s.setPort i (s.hunting i) := by
  have hr : s.receives (.slot i) = true := receives_slot ha (by rcases hst with h | h <;> simp [h])
  have hw' : (s.hunting i).answerDeadline = none := hw
  unfold takePresent
  rw [if_pos hr, hunt_slot]
  rcases hst with h | h
  · have h' : (s.hunting i).state = .vacant := h
    simp [h', hw']
  · have h' : (s.hunting i).state = .joining := h
    simp [h', hw']

/-- R97: the first answer makes a VACANT slot JOINING. -/
theorem takePresent_vacant (ha : s.active = true) (hst : (s.port i).state = .vacant)
    (hw : (s.port i).answerDeadline ≠ none) : takePresent i d s = s.setPort i
      { s.port i with
        receiver := huntingReceiver, state := .joining, joinCount := 1, declared := some d,
        answerDeadline := none } := by
  have hr : s.receives (.slot i) = true := receives_slot ha (by simp [hst])
  have hst' : (s.hunting i).state = .vacant := hst
  have hw' : (s.hunting i).answerDeadline.isSome = true := Option.isSome_iff_ne_none.2 hw
  unfold takePresent
  rw [if_pos hr, hunt_slot]
  simp only [port_setPort_self, hst', hw', if_true]
  simp only [State.declare, State.onPort, port_setPort_self, setPort_setPort]
  rfl

/-- R98: the second answer in a row makes a JOINING slot PRESENT, or MISMATCH where its record refuses the class. -/
theorem takePresent_joining (ha : s.active = true) (hst : (s.port i).state = .joining)
    (hw : (s.port i).answerDeadline ≠ none) : takePresent i d s =
      if (s.policy i).accepts (some d) then (s.setPort i (s.joinedPort i d)).enterKnown i .present .slotJoined
      else (s.setPort i (s.joinedPort i d)).enterKnown i .mismatch .slotMismatch := by
  have hr : s.receives (.slot i) = true := receives_slot ha (by simp [hst])
  have hst' : (s.hunting i).state = .joining := hst
  have hw' : (s.hunting i).answerDeadline.isSome = true := Option.isSome_iff_ne_none.2 hw
  unfold takePresent
  rw [if_pos hr, hunt_slot]
  simp only [port_setPort_self, hst', hw', if_true]
  simp only [State.join, State.declare, State.onPort, port_setPort_self, setPort_setPort]
  rfl

theorem proofOfLife_eq (hst : (s.port i).state ≠ .joining) :
    (s.hunt (.slot i)).proofOfLife i = s.setPort i (s.heard i) := by
  simp only [hunt_slot, State.proofOfLife, State.onPort, port_setPort_self, setPort_setPort, State.heard, if_neg hst]
  rfl

/-- R101: in PRESENT and PENALTY the declared peak alone is replaced. -/
theorem takePresent_known (ha : s.active = true) (hst : (s.port i).state = .present ∨ (s.port i).state = .penalty) :
    takePresent i d s = s.setPort i
      { s.heard i with declared := (s.port i).declared.map fun x => { x with peak := d.peak } } := by
  have hr : s.receives (.slot i) = true := receives_slot ha (by rcases hst with h | h <;> simp [h])
  have hlife := proofOfLife_eq (s := s) (i := i) (by rcases hst with h | h <;> simp [h])
  have hstate : ((s.hunt (.slot i)).port i).state = (s.port i).state := by rw [hunt_slot, port_setPort_self]; rfl
  unfold takePresent
  rw [if_pos hr]
  dsimp only
  rw [hstate, hlife]
  rcases hst with h | h <;> rw [h] <;>
    simp only [State.declarePeak, State.onPort, port_setPort_self, setPort_setPort, heard_declared]

/-- R101: in MISMATCH the module declares anew, and is PRESENT where its record takes the class. -/
theorem takePresent_mismatch (ha : s.active = true) (hst : (s.port i).state = .mismatch) : takePresent i d s =
    if (s.policy i).accepts (some d) then
      (s.setPort i { s.heard i with declared := some d }).enterKnown i .present .slotJoined
    else s.setPort i { s.heard i with declared := some d } := by
  have hr : s.receives (.slot i) = true := receives_slot ha (by simp [hst])
  have hlife := proofOfLife_eq (s := s) (i := i) (by simp [hst])
  have hstate : ((s.hunt (.slot i)).port i).state = .mismatch := by rw [hunt_slot, port_setPort_self]; exact hst
  unfold takePresent
  rw [if_pos hr]
  dsimp only
  rw [hstate, hlife]
  simp only [State.declare, State.onPort, port_setPort_self, setPort_setPort]
  rfl

/-- A class is taken where the required class is 0 or equals it (R98). -/
theorem accepts_some_iff : (s.policy i).accepts (some d) = true ↔ s.takesClass i d.cls := by
  rw [accepts_iff, State.takesClass, eq_comm (b := d.cls)]
  simp

/-- A slot that enters PRESENT with the values just declared (R98, R101, R103). -/
theorem enterPresent_declared (q : SlotPort) :
    (s.setPort i { q with declared := some d }).enterKnown i .present .slotJoined =
      (s.setPort i { q with declared := some d, state := .present, enable := s.holdsGrant i }).raise
        .slotJoined (some (.slot i)) d.cls.toNat := by
  rw [enterPresent_eq, port_setPort_self, setPort_setPort]
  rfl

theorem enterMismatch_declared (q : SlotPort) :
    (s.setPort i { q with declared := some d }).enterKnown i .mismatch .slotMismatch =
      (s.setPort i { q with declared := some d, state := .mismatch, enable := false }).raise
        .slotMismatch (some (.slot i)) d.cls.toNat := by
  rw [enterMismatch_eq, port_setPort_self, setPort_setPort]
  rfl

end Present

/-- Settles O38: by the slot's state, and the window that it has open. -/
theorem presentFramesAreTaken : Obligations.PresentFramesAreTaken := by
  intro s i cls peak ha p d gives joined
  have hexec : ∀ {t : State}, takePresent i d s = t → gives t := fun h => congrArg _ h
  have haccepts : (s.policy i).accepts (some d) = true ↔ s.takesClass i cls := accepts_some_iff
  split
  · next hst => exact hexec (takePresent_of_not_receives (by simp [State.receives, p, hst]))
  · next hst =>
    split
    · next hw => exact hexec (takePresent_unasked ha (.inl hst) hw)
    · next hw => exact hexec (takePresent_vacant ha hst hw)
  · next hst =>
    intro second
    refine ⟨fun hw => hexec (takePresent_unasked ha (.inr hst) hw), fun hw htakes => hexec ?_, fun hw htakes => hexec ?_⟩
    · rw [takePresent_joining ha hst hw, if_pos (haccepts.2 htakes)]
      exact enterPresent_declared second
    · rw [takePresent_joining ha hst hw, if_neg (mt haccepts.1 htakes)]
      exact enterMismatch_declared second
  · next hst => exact hexec (takePresent_known ha (.inl hst))
  · next hst => exact hexec (takePresent_known ha (.inr hst))
  · next hst =>
    refine ⟨fun htakes => hexec ?_, fun htakes => hexec ?_⟩
    · rw [takePresent_mismatch ha hst, if_pos (haccepts.2 htakes)]
      exact enterPresent_declared (s.heard i)
    · rw [takePresent_mismatch ha hst, if_neg (mt haccepts.1 htakes)]

/-! ## Probes and answer windows (R96 to R100) -/

theorem expireProbe_of_deadline {d : Time} (ha : s.active = true) (hd : (s.port i).probeDeadline = some d) :
    expireProbe i s = ((s.reach d).order i .probe).setPort i
      { ((s.reach d).order i .probe).port i with
        answerDeadline := some (max s.now d + answerWindow)
        probeDeadline := some (max s.now d + s.pol.items.probeInterval) } := by
  simp only [expireProbe, hd, ha, if_true]
  rfl

theorem expireAnswer_of_deadline {d : Time} (ha : s.active = true) (hd : (s.port i).answerDeadline = some d) :
    expireAnswer i s = closeWindow i (s.reach d) := by
  simp only [expireAnswer, hd, ha, if_true]

theorem closeWindow_absent (hst : (s.port i).state = .disabled ∨ (s.port i).state = .vacant) :
    closeWindow i s = s.onPort i fun p => { p with answerDeadline := none, joinCount := 0 } := by
  rcases hst with h | h <;> simp only [closeWindow, h]

theorem closeWindow_joining (hst : (s.port i).state = .joining) :
    closeWindow i s = s.setPort i
      { s.port i with
        state := .vacant, joinCount := 0, missCount := 0, declared := none, answerDeadline := none, penaltyEnd := none,
        enable := false } := by
  simp only [closeWindow]
  rw [hst]
  exact enterVacant_eq _

/-- R99: a slot's port after an unanswered probe, counted as a miss. -/
def SlotPort.missed (p : SlotPort) : SlotPort := { p with answerDeadline := none, missCount := p.missCount + 1 }

/-- R99, R100: a window of a known module that closes unanswered is a miss, and the third in a row loses the slot. -/
theorem closeWindow_known
    (hst : (s.port i).state = .present ∨ (s.port i).state = .penalty ∨ (s.port i).state = .mismatch) :
    closeWindow i s = if (s.port i).missCount + 1 < lostMisses then s.setPort i (s.port i).missed
      else (s.setPort i (s.port i).missed).lose i := by
  have hmiss : closeWindow i s = if lostMisses ≤ ((s.setPort i (s.port i).missed).port i).missCount then
      (s.setPort i (s.port i).missed).lose i else s.setPort i (s.port i).missed := by
    rcases hst with h | h | h <;> simp only [closeWindow, h] <;> rfl
  rw [hmiss, port_setPort_self, show (s.port i).missed.missCount = (s.port i).missCount + 1 from rfl]
  by_cases hlost : (s.port i).missCount + 1 < lostMisses
  · rw [if_pos hlost, if_neg (Nat.not_le.2 hlost)]
  · rw [if_neg hlost, if_pos (Nat.not_lt.1 hlost)]

/-- R100: the loss of a slot, from the state in which its teardown has been followed. -/
theorem lose_eq {torn : State} (htorn : tearAndFollow i (s.deassert i) = torn) : s.lose i =
    (torn.setPort i
      { (torn.port i).opened s.nextProbe with orders := [], replies := [], downstream := [] }).raise
      .slotLost (some (.slot i)) (s.heldBy i) := by
  have hkept : s.Kept torn := htorn ▸ (kept_onPort i _).trans (kept_tearAndFollow i)
  have hprobe : torn.nextProbe = s.nextProbe := by rw [State.nextProbe, hkept.now, hkept.pol, State.nextProbe]
  unfold State.lose
  dsimp only
  rw [htorn, enterVacant_eq, hprobe, State.emptyQueues, port_onPort_self, State.onPort, setPort_setPort]
  rfl

/-- Settles O39: each expiry at its deadline, and the loss by its stages. -/
theorem probesAndWindows : Obligations.ProbesAndWindows := by
  intro s i d ha p u probed vacated
  refine ⟨fun hd => congrArg _ (expireProbe_of_deadline ha hd), fun hd => ?_⟩
  have hexec : ∀ {t : State}, closeWindow i u = t → exec (.answerDeadline i) s = .next t := fun h =>
    congrArg _ ((expireAnswer_of_deadline ha hd).trans h)
  split
  · next hst => exact hexec (closeWindow_absent (.inl hst))
  · next hst => exact hexec (closeWindow_absent (.inr hst))
  · next hst => exact hexec (closeWindow_joining hst)
  all_goals
    next hst =>
    have hwindow := closeWindow_known (s := u) (i := i) (by simp [show (u.port i).state = _ from hst])
    split
    · next hfew => exact hexec (hwindow.trans (if_pos hfew))
    · next hlost =>
      intro off torn
      have hoff : (u.setPort i (u.port i).missed).deassert i = off := by
        simp only [State.deassert, State.onPort, port_setPort_self, setPort_setPort]
        rfl
      have htorn : tearAndFollow i ((u.setPort i (u.port i).missed).deassert i) = torn := by rw [hoff]; rfl
      exact hexec ((hwindow.trans (if_neg hlost)).trans (lose_eq htorn))

/-! ## PORT_RESET (R109, R140) -/

/-- R109: PORT_RESET of a slot, from the state in which its teardown has been followed. -/
theorem resetPort_eq {torn : State} (htorn : tearAndFollow i (s.deassert i) = torn) : s.resetPort i =
    let cleared : SlotPort := { (torn.port i).restart with orders := [], replies := [], downstream := [] }
    torn.setPort i (if (s.policy i).enabled = true then cleared.opened s.nextProbe else cleared) := by
  have hkept : s.Kept torn := htorn ▸ (kept_onPort i _).trans (kept_tearAndFollow i)
  have hprobe : torn.nextProbe = s.nextProbe := by rw [State.nextProbe, hkept.now, hkept.pol, State.nextProbe]
  have hcleared : (torn.emptyQueues i).onPort i SlotPort.restart =
      torn.setPort i { (torn.port i).restart with orders := [], replies := [], downstream := [] } := by
    rw [State.emptyQueues, State.onPort, State.onPort, port_setPort_self, setPort_setPort]
    rfl
  have hpolicy : ∀ q : SlotPort, (torn.setPort i q).policy i = s.policy i := fun _ => Kept_policy hkept i
  have hnext : ∀ q : SlotPort, (torn.setPort i q).nextProbe = torn.nextProbe := fun _ => rfl
  unfold State.resetPort
  dsimp only
  rw [htorn, hcleared, hpolicy, enterVacant_eq, hnext, hprobe, port_setPort_self, setPort_setPort]
  split <;> rfl

theorem runPortReset_slot {slot : Byte} (h : slotOf? slot = some i) :
    runPortReset slot s = acked (s.resetPort i) := by
  simp only [runPortReset, h]

theorem runPortReset_badSlot {slot : Byte} (h : slotOf? slot = none) : runPortReset slot s = naked .badSlot s := by
  simp only [runPortReset, h]

/-- Settles O50. -/
theorem portResetClearsASlot : Obligations.PortResetClearsASlot := by
  intro s q slot hx
  split
  · next hlt =>
    intro i off torn cleared
    have hoff : s.onSupply.deassert i = off := rfl
    have htorn : tearAndFollow i (s.onSupply.deassert i) = torn := by rw [hoff]; rfl
    have hrun := runPortReset_slot (s := s.onSupply) (slotOf?_of_lt hlt)
    rw [resetPort_eq htorn] at hrun
    refine (congrArg Host.Outcome.next (takeCommand_settled hx hrun)).trans ?_
    rfl
  · next hge =>
    exact congrArg Host.Outcome.next (takeCommand_settled hx (runPortReset_badSlot (slotOf?_of_not_lt hge)))

/-! ## Orders (R104, R105) -/

/-- R104: an unsent order for the same matter gives up its place. -/
theorem order_replaces {o old : Order} {before after : List Order} (hlist : (s.port i).orders = before ++ old :: after)
    (hbefore : ∀ x ∈ before, x.matter ≠ o.matter) (hold : old.matter = o.matter) :
    s.order i o = s.setPort i { s.port i with orders := before ++ o :: after } := by
  have hany : (s.port i).orders.any (·.matter == o.matter) = true := by simp [hlist, hold]
  have hmodified : modifyFirst (·.matter == o.matter) (fun _ => o) (s.port i).orders = before ++ o :: after := by
    rw [hlist]
    exact modifyFirst_append (fun x hx => by simpa using hbefore x hx) (by simpa using hold)
  rw [State.order, State.onPort, if_pos hany, hmodified]

theorem any_matter_eq_false {o : Order} (hnew : ∀ x ∈ (s.port i).orders, x.matter ≠ o.matter) :
    ¬ (s.port i).orders.any (·.matter == o.matter) = true := by
  simpa using hnew

/-- R105: where the tag places are taken, an order of a tag that is not in use makes room. -/
theorem order_drops {o : Order} (hnew : ∀ x ∈ (s.port i).orders, x.matter ≠ o.matter)
    (hfull : o.takesTagPlace = true ∧ tagPlaces ≤ ((s.port i).orders.filter Order.takesTagPlace).length) :
    s.order i o = s.setPort i
      { s.port i with
        orders := s.dropOrder i (s.port i).orders ++ [o], forwardDrops := countUp (s.port i).forwardDrops } := by
  rw [State.order, State.onPort, if_neg (any_matter_eq_false hnew), if_pos (by simpa using hfull)]

theorem order_appends {o : Order} (hnew : ∀ x ∈ (s.port i).orders, x.matter ≠ o.matter)
    (hroom : ¬ (o.takesTagPlace = true ∧ tagPlaces ≤ ((s.port i).orders.filter Order.takesTagPlace).length)) :
    s.order i o = s.setPort i { s.port i with orders := (s.port i).orders ++ [o] } := by
  rw [State.order, State.onPort, if_neg (any_matter_eq_false hnew), if_neg (by simpa using hroom)]

/-- R105: the oldest order that may be dropped is. -/
theorem dropOrder_append {before after : List Order} {old : Order} (hbefore : ∀ x ∈ before, s.droppable i x = false)
    (hold : s.droppable i old = true) : s.dropOrder i (before ++ old :: after) = before ++ after := by
  rw [State.dropOrder, if_pos (by simp [hold]), eraseP_append hbefore hold]

/-- Settles O41. -/
theorem ordersTakeTheirPlaces : Obligations.OrdersTakeTheirPlaces := by
  intro s i o p free
  have hfree : ∀ x, free x = s.droppable i x := fun _ => rfl
  refine ⟨fun before old after hlist hbefore hold => order_replaces hlist hbefore hold, fun hnew => ?_⟩
  split
  · next hfull =>
    intro before old after hlist hbefore hold
    have hdrop : s.dropOrder i p.orders = before ++ after := by
      rw [hlist]
      exact dropOrder_append hbefore hold
    rw [order_drops hnew hfull, hdrop]
  · next hroom => exact order_appends hnew hroom

/-! ## The transmitter (R108, R141, R180) -/

theorem beginSlot_of_busy (h : (s.port i).transmission ≠ none) : beginSlot i s = s := if_neg fun hb => h hb.2

theorem beginSlot_of_inactive (h : s.active = false) : beginSlot i s = s := if_neg fun hb => by simp [h] at hb

theorem nextFrame_order {p : SlotPort} {o : Order} {rest : List Order} (ho : p.orders = o :: rest) :
    p.nextFrame = some (.order o, { p with orders := rest }) := by
  simp [SlotPort.nextFrame, ho]

theorem nextFrame_reply {p : SlotPort} {r : Reply} {rest : List Reply} (ho : p.orders = [])
    (hr : p.replies = r :: rest) : p.nextFrame = some (.reply r, { p with replies := rest }) := by
  simp [SlotPort.nextFrame, ho, hr]

theorem nextFrame_data {p : SlotPort} {d : DataFrame} {rest : List DataFrame} (ho : p.orders = [])
    (hr : p.replies = []) (hd : p.downstream = d :: rest) :
    p.nextFrame = some (.data d, { p with downstream := rest }) := by
  simp [SlotPort.nextFrame, ho, hr, hd]

theorem nextFrame_none {p : SlotPort} (ho : p.orders = []) (hr : p.replies = []) (hd : p.downstream = []) :
    p.nextFrame = none := by
  simp [SlotPort.nextFrame, ho, hr, hd]

/-- A transmission begins with the first frame of the port's precedence. -/
theorem beginSlot_of_nextFrame {f : SlotFrame} {p : SlotPort} (ha : s.active = true)
    (ht : (s.port i).transmission = none) (hf : (s.port i).nextFrame = some (f, p)) :
    beginSlot i s = s.setPort i { p with transmission := some ⟨f, f.bytes⟩ } := by
  rw [beginSlot, if_pos ⟨ha, ht⟩, hf]

theorem beginSlot_of_noFrame (hf : (s.port i).nextFrame = none) : beginSlot i s = s := by
  unfold beginSlot
  split
  · rw [hf]
  · rfl

/-- Settles O59: the precedence is `nextFrame`'s, and the bytes are those of the frame with its kind and payload. -/
theorem slotLinkSendsInPrecedence : Obligations.SlotLinkSendsInPrecedence := by
  intro s i p gives two frame refused closed cut order reply
  have hframe : ∀ kind seq payload, formFrame moduleAddress slotLinkAddress kind seq payload = frame kind seq payload :=
    fun _ _ _ => rfl
  clear_value frame
  have hrefused : ∀ r : RefuseReason, byteOf r.code = refused r := fun r => by cases r <;> rfl
  have hclosed : ∀ r : ClosedReason, byteOf r.code = closed r := fun r => by cases r <;> rfl
  have hcut : ∀ r : CutReason, byteOf r.code = cut r := fun r => by cases r <;> rfl
  have horder : ∀ o : Order, (SlotFrame.order o).bytes = order o := fun o => by
    refine (hframe o.kind 0 o.payload).trans ?_
    cases o with
    | offer tag amount lease => rfl
    | shed tag target window => rfl
    | closed tag reason => exact congrArg (fun b => frame 0x26 0 [tag, b]) (hclosed reason)
    | cut reason => exact congrArg (fun b => frame 0x27 0 [b]) (hcut reason)
    | probe => rfl
  have hreply : ∀ r : Reply, (SlotFrame.reply r).bytes = reply r := fun r => by
    refine (hframe r.kind 0 r.payload).trans ?_
    cases r with
    | refuse tag reason => exact congrArg (fun b => frame 0x24 0 [tag, b]) (hrefused reason)
    | queued tag position => rfl
    | granted tag amount => rfl
    | closed tag reason => exact congrArg (fun b => frame 0x26 0 [tag, b]) (hclosed reason)
  have hdata : ∀ d : DataFrame, (SlotFrame.data d).bytes = frame 0x1F d.seq d.payload := fun d => hframe _ _ _
  have hexec : ∀ {t : State}, beginSlot i s = t → gives t := fun h => congrArg _ h
  refine ⟨rfl, fun ht => hexec (beginSlot_of_busy ht), fun hw => hexec (beginSlot_of_inactive ?_), fun ha ht => ?_⟩
  · simp [State.active, hw]
  split
  · next o rest ho =>
    rw [← horder o]
    exact hexec (beginSlot_of_nextFrame ha ht (nextFrame_order ho))
  · next r rest ho hr =>
    rw [← hreply r]
    exact hexec (beginSlot_of_nextFrame ha ht (nextFrame_reply ho hr))
  · next d rest ho hr hd =>
    rw [← hdata d]
    exact hexec (beginSlot_of_nextFrame ha ht (nextFrame_data ho hr hd))
  · next ho hr hd => exact hexec (beginSlot_of_noFrame (nextFrame_none ho hr hd))

end Sys2Proof.Machine

/-!
# The laws of the slots

What contracts, claims, rounds and passes do to the ports is `Serves`: no slot comes to hold anything, a port keeps its
shape or is cut, and an enable output that agrees goes on agreeing. A change of a slot's own state is the replacement of
one port, which is held to the laws of its slot (`PresentAt`, `ShapedAt`) with all other slots as they were. With both,
every command `Keeps` the laws of every slot.
-/

namespace Sys2Proof.Machine

-- The theorems are checked one after another: side by side, each would hold a thread of its own while it waits.
set_option Elab.async false

open Config

variable {s t u : State}

/-! ## The laws slot by slot (R94, R95, R102, R103) -/

/-- The slots of the contracts and of the queued claims. -/
def State.heldSlots (s : State) : List Slot := s.adm.contracts.map (·.slot) ++ s.adm.queue.map (·.slot)

/-- R102, R103 at one slot. -/
structure State.PresentAt (s : State) (i : Slot) : Prop where
  state : i ∈ s.heldSlots → (s.port i).state = .present
  enable : (s.port i).enable = s.enableValue i

/-- R94, R95 at one slot, with the record that says whether it is enabled. -/
structure State.ShapedFor (s : State) (r : Policy) (i : Slot) : Prop where
  port : (s.port i).shaped = true
  state : s.part = .running → ((s.port i).state = .disabled ↔ r.enabled = false)

/-- R94, R95 at one slot: its record is the active one. -/
def State.ShapedAt (s : State) (i : Slot) : Prop := s.ShapedFor (s.policy i) i

theorem presenceHolds_iff : s.PresenceHolds ↔ ∀ i, s.PresentAt i := by
  constructor
  · rintro ⟨hc, hq, he⟩ i
    refine ⟨fun hi => ?_, he i⟩
    rcases List.mem_append.1 hi with hi | hi
    · obtain ⟨c, hm, rfl⟩ := List.mem_map.1 hi
      exact hc c hm
    · obtain ⟨e, hm, rfl⟩ := List.mem_map.1 hi
      exact hq e hm
  · refine fun h => ⟨fun c hm => (h _).state ?_, fun e hm => (h _).state ?_, fun i => (h i).enable⟩
    · exact List.mem_append_left _ (List.mem_map_of_mem hm)
    · exact List.mem_append_right _ (List.mem_map_of_mem hm)

theorem slotsShaped_iff : s.SlotsShaped ↔ ∀ i, s.ShapedAt i :=
  ⟨fun h i => ⟨h.1 i, fun hr => h.2 hr i⟩, fun h => ⟨fun i => (h i).port, fun hr i => (h i).state hr⟩⟩

/-- A slot that is not PRESENT holds nothing (R102). -/
theorem State.PresentAt.notMem_heldSlots {i : Slot} (h : s.PresentAt i) (hp : (s.port i).state ≠ .present) :
    i ∉ s.heldSlots := fun hi => hp (h.state hi)

theorem holdsGrant_of_notMem {i : Slot} (h : i ∉ s.heldSlots) : s.holdsGrant i = false := by
  unfold State.holdsGrant
  rw [List.any_eq_false]
  intro c hc hgrant
  rw [Bool.and_eq_true, beq_iff_eq] at hgrant
  exact h (List.mem_append_left _ (List.mem_map.2 ⟨c, hc, hgrant.1⟩))

/-- R103: the enable output's value, from the slot's state and its contracts. -/
theorem enableValue_eq (i : Slot) : s.enableValue i = (decide ((s.port i).state = .present) && s.holdsGrant i) := by
  by_cases h : (s.port i).state = .present
  · rw [enableValue_of_present h, h]
    rfl
  · rw [enableValue_of_not_present h, decide_eq_false h, Bool.false_and]

/-- The slots of contracts that a change keeps granted or not. -/
theorem holdsGrant_congr (h : t.adm.contracts.map (fun c => (c.slot, c.granted)) =
    s.adm.contracts.map (fun c => (c.slot, c.granted))) (i : Slot) : t.holdsGrant i = s.holdsGrant i := by
  have hany : ∀ v : State, v.holdsGrant i =
      (v.adm.contracts.map fun c => (c.slot, c.granted)).any fun x => x.1 == i && x.2 := fun v => by
    rw [List.any_map]
    rfl
  rw [hany, hany, h]

/-! ## What serving the contracts and claims does to a port -/

/-- No count of the port exceeds 65535 (R94, R179). -/
def SlotPort.CountsFit (p : SlotPort) : Prop :=
  p.framingErrors ≤ maxCount ∧ p.crcErrors ≤ maxCount ∧ p.strayFrames ≤ maxCount ∧ p.forwardDrops ≤ maxCount

/-- A port after a change beside its slot's state: its queues, its transmission, its receiver and its counts. -/
structure SlotPort.Beside (p q : SlotPort) : Prop where
  state : q.state = p.state
  penaltyEnd : q.penaltyEnd = p.penaltyEnd
  joinCount : q.joinCount = p.joinCount
  missCount : q.missCount = p.missCount
  probeDeadline : q.probeDeadline = p.probeDeadline
  answerDeadline : q.answerDeadline = p.answerDeadline
  declared : q.declared = p.declared
  enable : q.enable = p.enable
  counts : p.CountsFit → q.CountsFit

/-- A port after rounds, passes and closings: as it was but for its queues, counts and enable output, or cut. -/
structure SlotPort.Served (p q : SlotPort) : Prop where
  joinCount : q.joinCount = p.joinCount
  missCount : q.missCount = p.missCount
  probeDeadline : q.probeDeadline = p.probeDeadline
  answerDeadline : q.answerDeadline = p.answerDeadline
  declared : q.declared = p.declared
  counts : p.CountsFit → q.CountsFit
  state : q.state = p.state ∧ q.penaltyEnd = p.penaltyEnd
    ∨ p.state = .present ∧ q.state = .penalty ∧ q.penaltyEnd.isSome = true

theorem SlotPort.Beside.served {p q : SlotPort} (h : p.Beside q) : p.Served q :=
  ⟨h.joinCount, h.missCount, h.probeDeadline, h.answerDeadline, h.declared, h.counts, .inl ⟨h.state, h.penaltyEnd⟩⟩

theorem SlotPort.Served.refl (p : SlotPort) : p.Served p := ⟨rfl, rfl, rfl, rfl, rfl, id, .inl ⟨rfl, rfl⟩⟩

theorem SlotPort.Served.trans {p q r : SlotPort} (h : p.Served q) (k : q.Served r) : p.Served r where
  joinCount := k.joinCount.trans h.joinCount
  missCount := k.missCount.trans h.missCount
  probeDeadline := k.probeDeadline.trans h.probeDeadline
  answerDeadline := k.answerDeadline.trans h.answerDeadline
  declared := k.declared.trans h.declared
  counts := k.counts ∘ h.counts
  state := by
    rcases h.state with ⟨hst, hend⟩ | ⟨hp, hq, hend⟩ <;> rcases k.state with ⟨kst, kend⟩ | ⟨kp, kq, kend⟩
    · exact .inl ⟨kst.trans hst, kend.trans hend⟩
    · exact .inr ⟨hst ▸ kp, kq, kend⟩
    · exact .inr ⟨hp, kst.trans hq, kend ▸ hend⟩
    · exact absurd (hq.symm.trans kp) (by simp)

theorem SlotPort.CountsFit.of_shaped {p : SlotPort} (h : p.shaped = true) : p.CountsFit := by
  simp only [SlotPort.shaped, Bool.and_eq_true, decide_eq_true_eq] at h
  obtain ⟨⟨⟨⟨hf, hc⟩, hs⟩, hd⟩, -⟩ := h
  exact ⟨hf, hc, hs, hd⟩

theorem SlotPort.Served.shaped {p q : SlotPort} (h : p.Served q) (hp : p.shaped = true) : q.shaped = true := by
  obtain ⟨hf, hc, hs, hd⟩ := h.counts (.of_shaped hp)
  simp only [SlotPort.shaped, Bool.and_eq_true, decide_eq_true_eq] at hp ⊢
  obtain ⟨-, hform⟩ := hp
  refine ⟨⟨⟨⟨hf, hc⟩, hs⟩, hd⟩, ?_⟩
  rw [h.joinCount, h.missCount, h.probeDeadline, h.answerDeadline, h.declared]
  rcases h.state with ⟨hst, hend⟩ | ⟨hst, hcut, hend⟩
  · rwa [hst, hend]
  · rw [hst] at hform
    rw [hcut]
    simp only [Bool.and_eq_true] at hform ⊢
    obtain ⟨⟨hcounts, -⟩, hdecl⟩ := hform
    exact ⟨⟨hcounts, hend⟩, hdecl⟩

theorem SlotPort.Served.disabled_iff {p q : SlotPort} (h : p.Served q) : q.state = .disabled ↔ p.state = .disabled := by
  rcases h.state with ⟨hst, -⟩ | ⟨hp, hq, -⟩
  · rw [hst]
  · simp [hp, hq]

theorem countUp_le {n : Nat} (h : n ≤ maxCount) : countUp n ≤ maxCount := by
  unfold countUp
  split <;> omega

theorem beside_withAnswer (p : SlotPort) (r : Reply) : p.Beside (p.withAnswer r) := by
  unfold SlotPort.withAnswer
  split
  · exact ⟨rfl, rfl, rfl, rfl, rfl, rfl, rfl, rfl, id⟩
  · exact ⟨rfl, rfl, rfl, rfl, rfl, rfl, rfl, rfl, fun ⟨hf, hc, hs, hd⟩ => ⟨hf, hc, hs, countUp_le hd⟩⟩

theorem beside_order (i : Slot) (o : Order) : (s.port i).Beside ((s.order i o).port i) := by
  unfold State.order
  rw [port_onPort_self]
  split
  · exact ⟨rfl, rfl, rfl, rfl, rfl, rfl, rfl, rfl, id⟩
  · split
    · exact ⟨rfl, rfl, rfl, rfl, rfl, rfl, rfl, rfl, fun ⟨hf, hc, hs, hd⟩ => ⟨hf, hc, hs, countUp_le hd⟩⟩
    · exact ⟨rfl, rfl, rfl, rfl, rfl, rfl, rfl, rfl, id⟩

/-! ## Serving contracts and claims -/

/-- A change of contracts and claims, and of what stands beside the slots' states: no slot comes to hold anything, a
slot that goes on holding something keeps its state, and an enable output that agrees goes on agreeing. -/
structure State.Serves (s t : State) : Prop where
  ports : ∀ i, (s.port i).Served (t.port i)
  held : ∀ i ∈ t.heldSlots, i ∈ s.heldSlots ∧ (t.port i).state = (s.port i).state
  enable : ∀ i, (s.port i).enable = s.enableValue i → (t.port i).enable = t.enableValue i
  part : t.part = s.part
  active : t.pol.active = s.pol.active

/-- A change that keeps the laws of every slot. -/
structure State.Keeps (s t : State) : Prop where
  present : ∀ i, s.PresentAt i → t.PresentAt i
  shaped : ∀ i, s.ShapedAt i → t.ShapedAt i

theorem State.Serves.refl (s : State) : s.Serves s :=
  ⟨fun _ => .refl _, fun _ hi => ⟨hi, rfl⟩, fun _ h => h, rfl, rfl⟩

theorem State.Serves.trans (h : s.Serves t) (k : t.Serves u) : s.Serves u where
  ports i := (h.ports i).trans (k.ports i)
  held i hi := ⟨(h.held i (k.held i hi).1).1, (k.held i hi).2.trans (h.held i (k.held i hi).1).2⟩
  enable i := k.enable i ∘ h.enable i
  part := k.part.trans h.part
  active := k.active.trans h.active

theorem State.Keeps.refl (s : State) : s.Keeps s := ⟨fun _ => id, fun _ => id⟩

theorem State.Keeps.trans (h : s.Keeps t) (k : t.Keeps u) : s.Keeps u :=
  ⟨fun i => k.present i ∘ h.present i, fun i => k.shaped i ∘ h.shaped i⟩

theorem State.Serves.presentAt (h : s.Serves t) {i : Slot} (hp : s.PresentAt i) : t.PresentAt i :=
  ⟨fun hi => (h.held i hi).2.trans (hp.state (h.held i hi).1), h.enable i hp.enable⟩

theorem State.Serves.shapedFor (h : s.Serves t) {r : Policy} {i : Slot} (hs : s.ShapedFor r i) : t.ShapedFor r i :=
  ⟨(h.ports i).shaped hs.port, fun hr => (h.ports i).disabled_iff.trans (hs.state (h.part ▸ hr))⟩

theorem State.Serves.policy (h : s.Serves t) (i : Slot) : t.policy i = s.policy i := by
  simp [State.policy, h.active]

theorem State.Serves.keeps (h : s.Serves t) : s.Keeps t where
  present _ := h.presentAt
  shaped i hs := by
    unfold State.ShapedAt
    rw [h.policy]
    exact h.shapedFor hs

/-! ### The rules -/

theorem enableValue_congr {i : Slot} (hstate : (t.port i).state = (s.port i).state)
    (hgrant : t.holdsGrant i = s.holdsGrant i) : t.enableValue i = s.enableValue i := by
  rw [enableValue_eq, enableValue_eq, hstate, hgrant]

/-- The tables change, the ports do not. -/
theorem serves_of_tables (hports : t.ports = s.ports) (hheld : ∀ i ∈ t.heldSlots, i ∈ s.heldSlots)
    (hgrant : ∀ i, t.holdsGrant i = s.holdsGrant i) (hpart : t.part = s.part := by rfl)
    (hactive : t.pol.active = s.pol.active := by rfl) : s.Serves t where
  ports i := by rw [port_congr hports]; exact .refl _
  held i hi := ⟨hheld i hi, by rw [port_congr hports]⟩
  enable i h := by
    have hport := port_congr hports i
    rw [hport, enableValue_congr (by rw [hport]) (hgrant i), h]
  part := hpart
  active := hactive

/-- A change beside the tables of contracts and claims, the ports and the active records. -/
theorem serves_same (hports : t.ports = s.ports := by rfl) (hadm : t.adm = s.adm := by rfl)
    (hpart : t.part = s.part := by rfl) (hactive : t.pol.active = s.pol.active := by rfl) : s.Serves t :=
  serves_of_tables hports (fun i hi => by simpa only [State.heldSlots, hadm] using hi)
    (fun i => by simp only [State.holdsGrant, hadm]) hpart hactive

/-- A port changes beside its slot's state. -/
theorem serves_onPort (i : Slot) {f : SlotPort → SlotPort} (hf : (s.port i).Beside (f (s.port i))) :
    s.Serves (s.onPort i f) := by
  have hport : ∀ j, (s.port j).Beside ((s.onPort i f).port j) := fun j => by
    by_cases hj : j = i
    · subst hj
      rwa [port_onPort_self]
    · rw [port_onPort_other _ _ _ _ hj]
      exact ⟨rfl, rfl, rfl, rfl, rfl, rfl, rfl, rfl, id⟩
  refine ⟨fun j => (hport j).served, fun j hj => ⟨hj, (hport j).state⟩, fun j h => ?_, rfl, rfl⟩
  rw [(hport j).enable, h, enableValue_congr (hport j).state rfl]

/-- A port's queues, transmission or receiver change. -/
theorem serves_onPort_same (i : Slot) {f : SlotPort → SlotPort} (hf : ∀ p : SlotPort, p.Beside (f p) := by
    exact fun _ => ⟨rfl, rfl, rfl, rfl, rfl, rfl, rfl, rfl, id⟩) : s.Serves (s.onPort i f) :=
  serves_onPort i (hf _)

/-- The tables change at one slot, and its enable output is worked out afresh. -/
theorem serves_evalEnable (i : Slot) (hother : ∀ j, j ≠ i → t.port j = s.port j)
    (hself : (s.port i).Served (t.port i)) (hstate : (t.port i).state = (s.port i).state)
    (hheld : ∀ j ∈ t.heldSlots, j ∈ s.heldSlots) (hgrant : ∀ j, j ≠ i → t.holdsGrant j = s.holdsGrant j)
    (hpart : t.part = s.part := by rfl) (hactive : t.pol.active = s.pol.active := by rfl) :
    s.Serves (t.evalEnable i) := by
  have hstates : ∀ j, ((t.evalEnable i).port j).state = (t.port j).state := fun j => by
    by_cases hj : j = i
    · subst hj
      rw [State.evalEnable, port_onPort_self]
    · rw [State.evalEnable, port_onPort_other _ _ _ _ hj]
  refine ⟨fun j => ?_, fun j hj => ⟨hheld j hj, ?_⟩, fun j h => ?_, hpart, hactive⟩
  · by_cases hj : j = i
    · subst hj
      rw [State.evalEnable, port_onPort_self]
      exact ⟨hself.joinCount, hself.missCount, hself.probeDeadline, hself.answerDeadline, hself.declared, hself.counts,
        hself.state⟩
    · rw [State.evalEnable, port_onPort_other _ _ _ _ hj, hother j hj]
      exact .refl _
  · rw [hstates]
    by_cases hji : j = i
    · rw [hji, hstate]
    · rw [hother j hji]
  · rw [enableValue_congr (s := t) (hstates j) rfl]
    by_cases hj : j = i
    · subst hj
      rw [State.evalEnable, port_onPort_self]
    · rw [State.evalEnable, port_onPort_other _ _ _ _ hj, hother j hj, h,
        enableValue_congr (by rw [hother j hj]) (hgrant j hj)]

/-! ### Lists of contracts and claims that shrink -/

theorem heldSlots_subset (hc : ∀ i ∈ t.adm.contracts.map (·.slot), i ∈ s.adm.contracts.map (·.slot))
    (hq : ∀ i ∈ t.adm.queue.map (·.slot), i ∈ s.adm.queue.map (·.slot)) : ∀ i ∈ t.heldSlots, i ∈ s.heldSlots :=
  fun i hi => List.mem_append.2 ((List.mem_append.1 hi).imp (hc i) (hq i))

theorem any_eraseP_other {i j : Slot} {g : Byte} (hj : j ≠ i) (l : List Contract) :
    (l.eraseP (Contract.isOf i g)).any (fun c => c.slot == j && c.granted) =
      l.any fun c => c.slot == j && c.granted := by
  induction l with
  | nil => rfl
  | cons c r ih =>
    by_cases hc : c.isOf i g = true
    · have hslot : (c.slot == j) = false := by
        have hci : c.slot = i := congrArg Prod.fst (Contract.isOf_iff.1 hc)
        simpa [hci] using hj.symm
      rw [List.eraseP_cons_of_pos hc, List.any_cons, hslot, Bool.false_and, Bool.false_or]
    · rw [List.eraseP_cons_of_neg hc, List.any_cons, List.any_cons, ih]

theorem any_filter_other {i j : Slot} (hj : j ≠ i) (l : List Contract) :
    (l.filter (·.slot != i)).any (fun c => c.slot == j && c.granted) = l.any fun c => c.slot == j && c.granted := by
  rw [List.any_filter]
  refine congrArg (l.any ·) (funext fun c => ?_)
  by_cases hc : c.slot = j
  · simp [hc, hj]
  · simp [hc]

theorem any_modifyFirst_other {i j : Slot} {g : Byte} {f : Contract → Contract} (hj : j ≠ i)
    (hf : ∀ c, (f c).slot = c.slot) (l : List Contract) :
    (modifyFirst (Contract.isOf i g) f l).any (fun c => c.slot == j && c.granted) =
      l.any fun c => c.slot == j && c.granted := by
  induction l with
  | nil => rfl
  | cons c r ih =>
    unfold modifyFirst
    split
    · next hc =>
      have hslot : (c.slot == j) = false := by
        have hci : c.slot = i := congrArg Prod.fst (Contract.isOf_iff.1 hc)
        simpa [hci] using hj.symm
      rw [List.any_cons, List.any_cons, hf, hslot, Bool.false_and, Bool.false_and]
    · rw [List.any_cons, List.any_cons, ih]

/-- A contract that changes without its slot and without becoming granted or ceasing to be. -/
theorem serves_onContract (i : Slot) (g : Byte) {f : Contract → Contract}
    (hf : ∀ c, ((f c).slot, (f c).granted) = (c.slot, c.granted)) : s.Serves (s.onContract i g f) :=
  serves_of_tables rfl
    (heldSlots_subset (fun _ hj =>
      map_modifyFirst (g := fun c : Contract => c.slot) (fun c => congrArg Prod.fst (hf c)) s.adm.contracts ▸ hj)
      fun _ => id)
    (holdsGrant_congr (map_modifyFirst hf _))



/-! ## The shared operations -/

theorem serves_reply (i : Slot) (r : Reply) : s.Serves (s.reply i r) := serves_onPort i (beside_withAnswer _ r)

theorem serves_refuse (i : Slot) (g : Byte) (r : RefuseReason) : s.Serves (s.refuse i g r) := serves_reply i _

theorem serves_order (i : Slot) (o : Order) : s.Serves (s.order i o) :=
  serves_onPort i (by simpa only [State.order, port_onPort_self] using beside_order (s := s) i o)

theorem serves_raise (k : EventKind) (o : Option Origin) (d : Nat) : s.Serves (s.raise k o d) := serves_same

theorem serves_reach (d : Time) : s.Serves (s.reach d) := serves_same

theorem serves_evalFlags : s.Serves (evalFlags s) :=
  serves_same evalFlags_ports evalFlags_adm kept_evalFlags.part (by rw [evalFlags_pol])

theorem serves_evalWatermark : s.Serves (evalWatermark s) := by
  rw [evalWatermark_eq]
  split <;> exact serves_same

theorem serves_recompute : s.Serves (recompute s) :=
  .trans (t := { s with bud := workOut s.bud s.pol.items }) serves_same serves_evalFlags

theorem serves_leaveQueue (i : Slot) (g : Byte) : s.Serves (s.leaveQueue i g) :=
  serves_of_tables rfl
    (heldSlots_subset (fun _ => id) fun _ hj => ((List.eraseP_sublist (p := QueueEntry.isOf i g)).map _).subset hj)
    fun _ => rfl

theorem serves_removeContract (i : Slot) (g : Byte) : s.Serves (s.removeContract i g) := by
  unfold State.removeContract
  split
  · exact .refl s
  · refine serves_evalEnable i (fun _ _ => rfl) (.refl _) rfl ?_ fun j hj => any_eraseP_other hj s.adm.contracts
    exact heldSlots_subset (fun _ hj => ((List.eraseP_sublist (p := Contract.isOf i g)).map _).subset hj) fun _ => id

theorem serves_closeContract (i : Slot) (g : Byte) : s.Serves (s.closeContract i g) :=
  (serves_removeContract i g).trans serves_evalFlags

theorem serves_withdraw (i : Slot) (g : Byte) : s.Serves (s.withdraw i g) :=
  (serves_closeContract i g).trans (serves_order i _)

theorem shedTo_granted (target deadline : Nat) (forced : Bool) (c : Contract) :
    ((c.shedTo target deadline forced).slot, (c.shedTo target deadline forced).granted) = (c.slot, c.granted) := by
  cases hst : c.state <;> simp [Contract.shedTo, Contract.granted, hst]

theorem serves_issueShed (i : Slot) (g : Byte) (target : Nat) (forced : Bool) :
    s.Serves (s.issueShed i g target forced) := by
  unfold State.issueShed
  split
  · exact .refl s
  · next c _ =>
    split
    · refine .trans (.trans (t := { s with eng.pledged := s.eng.pledged + (c.amount - target) }) serves_same ?_)
        (serves_order i _)
      exact serves_onContract i g (shedTo_granted _ _ _)
    · exact .refl s

/-- A slot whose contracts and claims have all been removed holds nothing (R24). -/
theorem notMem_heldSlots_removeSlot (i : Slot) : i ∉ (s.removeSlot i).heldSlots := by
  rw [removeSlot_eq]
  simp [State.heldSlots]

/-- R24: a slot's contracts and claims leave, whatever its enable output was made before. -/
theorem serves_removeSlot (i : Slot) (hother : ∀ j, j ≠ i → t.port j = s.port j)
    (hself : (s.port i).Served (t.port i)) (hstate : (t.port i).state = (s.port i).state)
    (hadm : t.adm = s.adm := by rfl) (hpart : t.part = s.part := by rfl)
    (hactive : t.pol.active = s.pol.active := by rfl) : s.Serves (t.removeSlot i) := by
  refine serves_evalEnable i hother hself hstate ?_ (fun j hj => ?_) hpart hactive
  · refine heldSlots_subset (fun j hj => ?_) fun j hj => ?_
    · exact hadm ▸ (List.filter_sublist.map _).subset hj
    · exact hadm ▸ (List.filter_sublist.map _).subset hj
  · exact (any_filter_other hj t.adm.contracts).trans (by rw [hadm]; rfl)

@[simp] theorem port_deassert_self (i : Slot) : (s.deassert i).port i = { s.port i with enable := false } :=
  port_onPort_self _ _ _

theorem serves_deassert_teardown (i : Slot) : s.Serves ((s.deassert i).teardown i) := by
  refine .trans (serves_removeSlot (t := s.deassert i) i (fun j hj => port_onPort_other _ _ _ _ hj) ?_ ?_)
    serves_evalFlags
  · rw [port_deassert_self]
    exact ⟨rfl, rfl, rfl, rfl, rfl, id, .inl ⟨rfl, rfl⟩⟩
  · rw [port_deassert_self]

theorem port_teardown_self (i : Slot) : (s.teardown i).port i = { s.port i with enable := false } := by
  rw [State.teardown, port_congr evalFlags_ports, removeSlot_eq, State.port, get_set_self]

theorem notMem_heldSlots_teardown (i : Slot) : i ∉ (s.teardown i).heldSlots := fun h =>
  notMem_heldSlots_removeSlot i (by simpa only [State.heldSlots, State.teardown, evalFlags_adm] using h)

/-- R88 stage 4: a PRESENT slot that holds nothing goes into PENALTY. -/
theorem serves_setPort_penalty (i : Slot) (d : Time) (hp : (s.port i).state = .present) (hnone : i ∉ s.heldSlots) :
    s.Serves (s.setPort i { s.port i with state := .penalty, penaltyEnd := some d }) := by
  refine ⟨fun j => ?_, fun j hj => ⟨hj, ?_⟩, fun j h => ?_, rfl, rfl⟩
  · by_cases hj : j = i
    · subst hj
      rw [port_setPort_self]
      exact ⟨rfl, rfl, rfl, rfl, rfl, id, .inr ⟨hp, rfl, rfl⟩⟩
    · rw [port_setPort_other _ _ _ _ hj]
      exact .refl _
  · rw [port_setPort_other _ _ _ _ fun hji : j = i => hnone (hji ▸ hj)]
  · by_cases hj : j = i
    · subst hj
      rw [enableValue_eq, holdsGrant_of_notMem hnone, Bool.and_false] at h
      rw [port_setPort_self, enableValue_of_not_present (by simp)]
      exact h
    · rw [port_setPort_other _ _ _ _ hj, h]
      exact (enableValue_congr (congrArg SlotPort.state (port_setPort_other _ _ _ _ hj)) rfl).symm

theorem serves_cut (i : Slot) (reason : CutReason) : s.Serves (s.cut i reason) := by
  by_cases hp : (s.port i).state = .present
  · rw [cut_of_present hp]
    have hordered : s.Serves (s.cutOrdered i reason) := (serves_deassert_teardown i).trans (serves_order i _)
    have hstate : ((s.cutOrdered i reason).port i).state = .present := by
      rw [State.cutOrdered, (beside_order i _).state, port_teardown_self, port_deassert_self]
      exact hp
    exact (hordered.trans (serves_setPort_penalty i _ hstate (notMem_heldSlots_teardown i))).trans (serves_raise _ _ _)
  · rw [cut_of_not_present hp]
    exact .refl s

/-! ## Rounds and passes -/

theorem serves_preemptWithdraw (bound fuel : Nat) :
    ∀ (need : Nat) (s : State), s.Serves (preemptWithdraw bound fuel need s).1 := by
  induction fuel with
  | zero => exact fun _ s => .refl s
  | succ fuel ih =>
    intro need s
    unfold preemptWithdraw
    split
    · exact .refl s
    · split
      · exact .refl s
      · exact (serves_withdraw _ _).trans (ih _ _)

theorem serves_preemptShed (bound fuel : Nat) : ∀ (need : Nat) (s : State), s.Serves (preemptShed bound fuel need s) := by
  induction fuel with
  | zero => exact fun _ s => .refl s
  | succ fuel ih =>
    intro need s
    unfold preemptShed
    split
    · exact .refl s
    · split
      · exact .refl s
      · exact (serves_issueShed _ _ _ _).trans (ih _ _)

theorem serves_preemptRound (r : PreemptRecord) : s.Serves (preemptRound r s).1 :=
  (serves_preemptWithdraw _ _ _ _).trans (serves_preemptShed _ _ _ _)

theorem heldSlots_offered (i : Slot) (g : Byte) (amount : Nat) (d : Time) (j : Slot) :
    j ∈ (s.offered i g amount d).heldSlots ↔ j ∈ s.heldSlots ∨ j = i := by
  simp only [State.heldSlots, State.offered, List.map_append, List.mem_append, List.map_cons, List.map_nil,
    List.mem_singleton]
  tauto

theorem holdsGrant_offered (i : Slot) (g : Byte) (amount : Nat) (d : Time) (j : Slot) :
    (s.offered i g amount d).holdsGrant j = s.holdsGrant j := by
  simp [State.holdsGrant, State.offered, Contract.granted]

/-- R37: an entry that is admitted holds its slot's place as a contract, not granted yet. -/
theorem serves_grantEntry {e : QueueEntry} (amount : Nat) (he : e.slot ∈ s.heldSlots) :
    s.Serves (s.grantEntry e amount) := by
  have hleft := serves_leaveQueue (s := s) e.slot e.tag
  have hoffered : s.Serves ((s.leaveQueue e.slot e.tag).offered e.slot e.tag amount (s.now + s.pol.items.acceptWindow)) :=
    serves_of_tables rfl
      (fun j hj => ((heldSlots_offered _ _ _ _ j).1 hj).elim (fun h => (hleft.held j h).1) fun h => h ▸ he)
      fun j => holdsGrant_offered _ _ _ _ j
  exact (hoffered.trans serves_evalFlags).trans (serves_order _ _)

/-- An entry's admission takes nothing from any slot. -/
theorem heldSlots_grantEntry (e : QueueEntry) (amount : Nat) {j : Slot} (h : j ∈ s.heldSlots) :
    j ∈ (s.grantEntry e amount).heldSlots := by
  have hadm : (s.grantEntry e amount).heldSlots =
      ((s.leaveQueue e.slot e.tag).offered e.slot e.tag amount 0).heldSlots := by
    simp only [State.grantEntry, createOffer_eq, State.heldSlots, order_adm, evalFlags_adm, State.offered,
      List.map_append, List.map_cons, List.map_nil]
  rw [hadm, heldSlots_offered]
  rcases List.mem_append.1 h with h | h
  · exact .inl (List.mem_append_left _ h)
  · obtain ⟨x, hx, rfl⟩ := List.mem_map.1 h
    by_cases hxe : x.isOf e.slot e.tag = true
    · exact .inr (congrArg Prod.fst (QueueEntry.isOf_iff.1 hxe))
    · exact .inl (List.mem_append_right _ (List.mem_map_of_mem ((List.mem_eraseP_of_neg hxe).2 hx)))

/-- A pass admits for slots that hold something (R36). -/
theorem serves_passWalk (l : List QueueEntry) :
    ∀ s : State, (∀ e ∈ l, e.slot ∈ s.heldSlots) → s.Serves (passWalk l s).1 := by
  induction l with
  | nil => exact fun s _ => .refl s
  | cons e rest ih =>
    intro s hl
    have hrest : ∀ x ∈ rest, x.slot ∈ s.heldSlots := fun x hx => hl x (by simp [hx])
    unfold passWalk
    cases s.passStep e with
    | full => exact .refl s
    | passed => exact ih s hrest
    | taken amount =>
      exact (serves_grantEntry amount (hl e (by simp))).trans
        (ih _ fun x hx => heldSlots_grantEntry e amount (hrest x hx))
    | blocked => exact .refl s

theorem serves_markRequested (e : QueueEntry) : s.Serves (s.markRequested e) :=
  serves_of_tables rfl
    (heldSlots_subset (fun _ => id) fun _ hj =>
      map_modifyFirst (p := QueueEntry.isOf e.slot e.tag) (f := fun x => { x with reliefRequested := true })
        (g := fun x : QueueEntry => x.slot) (fun _ => rfl) s.adm.queue ▸ hj)
    fun _ => rfl

theorem serves_handOff (e : QueueEntry) : s.Serves (handOff e s).1 := by
  have hmarked := serves_markRequested (s := s) e
  unfold handOff
  split
  · split
    · exact hmarked
    · exact hmarked.trans (.trans (t := { s.markRequested e with eng.record := some (s.requestFor e) }) serves_same
        (serves_preemptRound _))
  · exact .refl s

theorem serves_admissionPass (fuel : Nat) : ∀ s : State, s.Serves (admissionPass fuel s) := by
  induction fuel with
  | zero => exact fun s => .refl s
  | succ fuel ih =>
    intro s
    have hw := serves_passWalk s.adm.queue s fun e he => List.mem_append_right _ (List.mem_map_of_mem he)
    unfold admissionPass
    split
    · next hp => rwa [hp] at hw
    · next u e hp =>
      rw [hp] at hw
      have hh := hw.trans (serves_handOff e)
      split
      · next v hq =>
        rw [hq] at hh
        exact hh.trans (ih v)
      · next v hq =>
        rw [hq] at hh
        exact hh

theorem serves_runPass : s.Serves (runPass s) := serves_admissionPass _ s

theorem serves_budgetWithdraw (fuel : Nat) : ∀ s : State, s.Serves (budgetWithdraw fuel s).1 := by
  induction fuel with
  | zero => exact fun s => .refl s
  | succ fuel ih =>
    intro s
    unfold budgetWithdraw
    split
    · exact .refl s
    · split
      · exact .refl s
      · exact (serves_withdraw _ _).trans (ih _)

theorem serves_budgetShed (fuel : Nat) : ∀ s : State, s.Serves (budgetShed fuel s) := by
  induction fuel with
  | zero => exact fun s => .refl s
  | succ fuel ih =>
    intro s
    unfold budgetShed
    split
    · exact .refl s
    · split
      · exact .refl s
      · exact (serves_issueShed _ _ _ _).trans (ih _)

theorem serves_budgetCut (fuel : Nat) : ∀ s : State, s.Serves (budgetCut fuel s).1 := by
  induction fuel with
  | zero => exact fun s => .refl s
  | succ fuel ih =>
    intro s
    unfold budgetCut
    split
    · exact .refl s
    · split
      · exact .refl s
      · exact (serves_cut _ _).trans (ih _)

theorem serves_budgetActs (urgency : Urgency) : s.Serves (budgetActs urgency s).1 := by
  have hw := serves_budgetWithdraw s.adm.contracts.length s
  cases urgency with
  | normal => exact hw.trans (serves_budgetShed _ _)
  | immediate => exact hw.trans (serves_budgetCut _ _)

theorem serves_budgetRound (urgency : Urgency) : s.Serves (budgetRound urgency s) := by
  unfold budgetRound
  dsimp only
  split
  · exact (serves_budgetActs urgency).trans serves_runPass
  · exact serves_budgetActs urgency

theorem serves_recheckIf (called : Bool) : s.Serves (recheckIf called s) := by
  unfold recheckIf
  split
  · exact serves_budgetRound .normal
  · exact .refl s

theorem serves_afterClose (wasShedding : Bool) : s.Serves (afterClose wasShedding s) :=
  serves_runPass.trans (serves_recheckIf wasShedding)

theorem serves_cutAndFollow (i : Slot) (reason : CutReason) : s.Serves (cutAndFollow i reason s) := by
  unfold cutAndFollow
  split
  · exact (serves_cut i reason).trans (serves_afterClose _)
  · exact serves_cut i reason

theorem serves_requestOnChange (before : Nat) (urgency : Urgency) : s.Serves (requestOnChange before urgency s) := by
  unfold requestOnChange
  split
  · exact serves_budgetRound urgency
  · split
    · exact serves_runPass
    · exact .refl s

theorem serves_requestOnConfig (before : Nat) : s.Serves (requestOnConfig before s) := by
  unfold requestOnConfig
  split
  · exact serves_runPass.trans (serves_budgetRound .normal)
  · exact serves_budgetRound .normal

/-- The teardown of a slot by loss or PORT_RESET with what follows it: the slot holds nothing after it (R100, R109). -/
theorem tearAndFollow_spec (i : Slot) : ((s.deassert i).teardown i).Serves (tearAndFollow i (s.deassert i)) := by
  unfold tearAndFollow
  split
  · exact .refl _
  · exact serves_afterClose _

theorem serves_deassert_tearAndFollow (i : Slot) : s.Serves (tearAndFollow i (s.deassert i)) :=
  (serves_deassert_teardown i).trans (tearAndFollow_spec i)

theorem notMem_heldSlots_tearAndFollow (i : Slot) : i ∉ (tearAndFollow i (s.deassert i)).heldSlots := fun h =>
  notMem_heldSlots_teardown i ((tearAndFollow_spec i).held i h).1

/-! ## The power frames -/

theorem onGrant_granted (f : Grant → Grant) (c : Contract) :
    ((c.onGrant f).slot, (c.onGrant f).granted) = (c.slot, c.granted) := by
  cases hst : c.state <;> simp [Contract.onGrant, Contract.granted, hst]

theorem complied_granted (amount : Nat) (c : Contract) :
    ((c.complied amount).slot, (c.complied amount).granted) = (c.slot, c.granted) := by
  cases hst : c.state <;> simp [Contract.complied, Contract.granted, hst]

theorem serves_onGrant (i : Slot) (g : Byte) (f : Grant → Grant) : s.Serves (s.onContract i g (Contract.onGrant f)) :=
  serves_onContract i g (onGrant_granted f)

theorem serves_withAmount (i : Slot) (g : Byte) (amount committed : Nat) :
    s.Serves { s.onContract i g (Contract.withAmount amount) with adm.committed := committed } :=
  (serves_onContract i g (f := Contract.withAmount amount) fun _ => rfl).trans
    (serves_of_tables rfl (fun _ => id) fun _ => rfl)

theorem serves_comply (i : Slot) (g : Byte) (c : Contract) (amount : Nat) : s.Serves (s.comply i g c amount) := by
  have hlowered : s.Serves { s.onContract i g (Contract.complied amount) with
      adm.committed := s.adm.committed - (c.amount - amount) } :=
    (serves_onContract i g (complied_granted amount)).trans (serves_of_tables rfl (fun _ => id) fun _ => rfl)
  exact (hlowered.trans serves_evalFlags).trans serves_same

/-- R11: a contract that becomes granted, with the enable output of its slot worked out afresh. -/
theorem serves_held (i : Slot) (g : Byte) (gr : Grant) :
    s.Serves ((s.onContract i g fun c => { c with state := .held gr }).evalEnable i) := by
  refine serves_evalEnable i (fun _ _ => rfl) (.refl _) rfl ?_ fun j hj => ?_
  · exact heldSlots_subset (fun _ hj =>
      map_modifyFirst (p := Contract.isOf i g) (f := fun c => { c with state := .held gr })
        (g := fun c : Contract => c.slot) (fun _ => rfl) s.adm.contracts ▸ hj) fun _ => id
  · exact any_modifyFirst_other (f := fun c => { c with state := .held gr }) hj (fun _ => rfl) s.adm.contracts

theorem serves_takeAccept (i : Slot) (g : Byte) : s.Serves (takeAccept i g s) := by
  unfold takeAccept
  split
  · exact serves_refuse i g _
  · split
    · exact (serves_held i g _).trans (serves_reply i _)
    · exact serves_refuse i g _

theorem serves_takeDecline (i : Slot) (g : Byte) : s.Serves (takeDecline i g s) := by
  unfold takeDecline
  split
  · exact serves_refuse i g _
  · split
    · exact ((serves_closeContract i g).trans (serves_reply i _)).trans serves_runPass
    · exact serves_refuse i g _

theorem serves_takeRelease (i : Slot) (g : Byte) : s.Serves (takeRelease i g s) := by
  unfold takeRelease
  split
  · exact ((serves_closeContract i g).trans (serves_reply i _)).trans (serves_afterClose _)
  · split
    · exact ((serves_leaveQueue i g).trans (serves_reply i _)).trans serves_runPass
    · exact serves_refuse i g _

theorem serves_adjustHeld (i : Slot) (g : Byte) (c : Contract) (amount : Nat) :
    s.Serves (adjustHeld i g c amount s) := by
  unfold adjustHeld
  split
  · exact serves_refuse i g _
  · split
    · exact serves_reply i _
    · split
      · exact (((serves_withAmount i g _ _).trans serves_evalFlags).trans (serves_reply i _)).trans serves_runPass
      · split
        · exact serves_refuse i g _
        · exact ((serves_withAmount i g _ _).trans serves_evalFlags).trans (serves_reply i _)

theorem serves_takeAdjust (i : Slot) (g : Byte) (asked : Nat) : s.Serves (takeAdjust i g asked s) := by
  unfold takeAdjust
  split
  · exact serves_refuse i g _
  · dsimp only
    split
    · exact serves_refuse i g _
    · split
      · exact serves_refuse i g _
      · exact serves_adjustHeld i g _ _
    · split
      · exact serves_refuse i g _
      · split
        · exact ((serves_comply i g _ _).trans (serves_reply i _)).trans (serves_afterClose true)
        · exact serves_refuse i g _

theorem serves_takeRenew (i : Slot) (g : Byte) : s.Serves (takeRenew i g s) := by
  unfold takeRenew
  split
  · exact serves_refuse i g _
  · split
    · exact (serves_onGrant i g _).trans (serves_reply i _)
    · exact serves_refuse i g _

theorem serves_violate (i : Slot) (reason : CutReason) (detail : Nat) : s.Serves (violate i reason detail s) := by
  unfold violate
  dsimp only
  split
  · exact serves_raise _ _ _
  · exact (serves_raise _ _ _).trans (serves_cutAndFollow i reason)

theorem serves_judgeReport (i : Slot) (g : Byte) (measured : Nat) : s.Serves (judgeReport i g measured s) := by
  unfold judgeReport
  split
  · exact .refl s
  · dsimp only
    split
    · exact serves_onGrant i g _
    · split
      · exact serves_onGrant i g _
      · exact (serves_onGrant i g _).trans (serves_violate i _ _)

theorem serves_stray (i : Slot) : s.Serves (s.stray i) :=
  serves_onPort_same (f := fun p => { p with strayFrames := countUp p.strayFrames }) i fun _ =>
    ⟨rfl, rfl, rfl, rfl, rfl, rfl, rfl, rfl, fun ⟨hf, hc, hs, hd⟩ => ⟨hf, hc, countUp_le hs, hd⟩⟩

theorem serves_takeReport (i : Slot) (g : Byte) (measured : Nat) : s.Serves (takeReport i g measured s) := by
  unfold takeReport
  split
  · exact serves_stray i
  · split
    · exact serves_stray i
    · exact serves_judgeReport i g measured
    · split
      · exact ((serves_comply i g _ _).trans (serves_afterClose true)).trans (serves_judgeReport i g measured)
      · exact serves_judgeReport i g measured

theorem serves_takeComply (i : Slot) (g : Byte) : s.Serves (takeComply i g s) := by
  unfold takeComply
  split
  · exact serves_refuse i g _
  · split
    · exact ((serves_comply i g _ _).trans (serves_reply i _)).trans (serves_afterClose true)
    · exact serves_refuse i g _
    · exact serves_refuse i g _

/-! ### Claims -/

/-- A slot that is PRESENT may come to hold a contract or claim, not granted yet (R102). -/
theorem keeps_of_tables (hports : t.ports = s.ports)
    (hheld : ∀ i ∈ t.heldSlots, i ∈ s.heldSlots ∨ (s.port i).state = .present)
    (hgrant : ∀ i, t.holdsGrant i = s.holdsGrant i) (hpart : t.part = s.part := by rfl)
    (hpol : t.pol = s.pol := by rfl) : s.Keeps t where
  present i h := by
    have hport := port_congr hports i
    refine ⟨fun hi => ?_, ?_⟩
    · rw [hport]
      exact (hheld i hi).elim h.state id
    · rw [hport, enableValue_congr (by rw [hport]) (hgrant i), h.enable]
  shaped i h := by
    have hport := port_congr hports i
    unfold State.ShapedAt
    rw [policy_congr hpol]
    exact ⟨hport ▸ h.port, fun hr => hport ▸ h.state (hpart ▸ hr)⟩

theorem keeps_createOffer {i : Slot} (g : Byte) (amount : Nat) (hp : (s.port i).state = .present) :
    s.Keeps (s.createOffer i g amount) := by
  rw [createOffer_eq]
  have hoffered : s.Keeps (s.offered i g amount (s.now + s.pol.items.acceptWindow)) :=
    keeps_of_tables rfl (fun j hj => ((heldSlots_offered _ _ _ _ j).1 hj).imp id fun h : j = i => h ▸ hp)
      (holdsGrant_offered _ _ _ _)
  exact (hoffered.trans serves_evalFlags.keeps).trans (serves_order i _).keeps

theorem heldSlots_placed (e : QueueEntry) (j : Slot) : j ∈ (s.placed e).heldSlots ↔ j ∈ s.heldSlots ∨ j = e.slot := by
  have hqueue := ((insertEntry_perm s e s.adm.queue).map fun x : QueueEntry => x.slot).mem_iff (a := j)
  simp only [State.heldSlots, State.placed, List.mem_append, hqueue, List.map_cons, List.mem_cons]
  tauto

theorem keeps_placeClaim {i : Slot} (g : Byte) (want least : Nat) (hp : (s.port i).state = .present) :
    s.Keeps (s.placeClaim i g want least) := by
  rw [placeClaim_placed]
  have hplaced : s.Keeps (s.placed (s.entryFor i g want least)) :=
    keeps_of_tables rfl (fun j hj => ((heldSlots_placed _ j).1 hj).imp id fun h : j = i => h ▸ hp) fun _ => rfl
  exact hplaced.trans (serves_reply i _).keeps

theorem state_refuse (i j : Slot) (g : Byte) (r : RefuseReason) :
    ((s.refuse i g r).port j).state = (s.port j).state := by
  by_cases hj : j = i
  · subst hj
    exact (congrArg SlotPort.state (port_onPort_self s j _)).trans (beside_withAnswer (s.port j) _).state
  · exact congrArg SlotPort.state (port_onPort_other s i j _ hj)

theorem keeps_queueClaim {i : Slot} (g : Byte) (want least : Nat) (hp : (s.port i).state = .present) :
    s.Keeps (s.queueClaim i g want least) := by
  unfold State.queueClaim
  split
  · exact keeps_placeClaim g want least hp
  · split
    · exact (serves_refuse i g _).keeps
    · next last _ =>
      split
      · have hdisplaced : s.Serves ((s.leaveQueue last.slot last.tag).refuse last.slot last.tag .displaced) :=
          (serves_leaveQueue _ _).trans (serves_refuse _ _ _)
        refine (hdisplaced.keeps.trans (keeps_placeClaim g want least ?_)).trans serves_runPass.keeps
        rw [state_refuse]
        exact hp
      · exact (serves_refuse i g _).keeps

theorem present_of_claimRefusal {i : Slot} {g : Byte} {want least : Nat} (h : s.claimRefusal i g want least = none) :
    (s.port i).state = .present := by
  cases hst : (s.port i).state with
  | present => rfl
  | _ => simp [State.claimRefusal, hst] at h

theorem keeps_takeClaim (i : Slot) (g : Byte) (want least : Nat) : s.Keeps (takeClaim i g want least s) := by
  unfold takeClaim
  split
  · exact (serves_refuse i g _).keeps
  · next hpasses =>
    have hp := present_of_claimRefusal hpasses
    dsimp only
    split
    · exact keeps_createOffer g _ hp
    · exact keeps_queueClaim g _ _ hp

/-! ## The links and the other frames -/

theorem serves_setReceiver (link : Link) (r : Receiver) : s.Serves (s.setReceiver link r) := by
  cases link with
  | slot i => exact serves_onPort_same (f := fun p => { p with receiver := r }) i
  | supply => exact serves_same

theorem serves_linkError (link : Link) (e : LinkError) : s.Serves (s.linkError link e) := by
  refine .trans ?_ (serves_raise _ _ _)
  cases link <;> cases e
  case slot.framing i =>
    exact serves_onPort_same (f := fun p => { p with framingErrors := countUp p.framingErrors }) i fun _ =>
      ⟨rfl, rfl, rfl, rfl, rfl, rfl, rfl, rfl, fun ⟨hf, hc, hs, hd⟩ => ⟨countUp_le hf, hc, hs, hd⟩⟩
  case slot.crc i =>
    exact serves_onPort_same (f := fun p => { p with crcErrors := countUp p.crcErrors }) i fun _ =>
      ⟨rfl, rfl, rfl, rfl, rfl, rfl, rfl, rfl, fun ⟨hf, hc, hs, hd⟩ => ⟨hf, countUp_le hc, hs, hd⟩⟩
  case supply.framing => exact serves_same
  case supply.crc => exact serves_same

theorem serves_malformedFrame (link : Link) : s.Serves (malformedFrame link s) := by
  unfold malformedFrame
  split
  · exact (serves_setReceiver link _).trans (serves_linkError link _)
  · exact .refl s

theorem serves_abandonFrame (link : Link) : s.Serves (abandonFrame link s) := by
  unfold abandonFrame
  split
  · split
    · exact .refl s
    · exact ((serves_reach _).trans (serves_setReceiver link _)).trans (serves_linkError link _)
  · exact .refl s

theorem serves_dropForward (i : Slot) : s.Serves (s.dropForward i) :=
  .trans (serves_onPort_same (f := fun p => { p with forwardDrops := countUp p.forwardDrops }) i fun _ =>
    ⟨rfl, rfl, rfl, rfl, rfl, rfl, rfl, rfl, fun ⟨hf, hc, hs, hd⟩ => ⟨hf, hc, hs, countUp_le hd⟩⟩)
    (serves_raise _ _ _)

theorem serves_takeData (i : Slot) (q : Byte) (payload : List Byte) : s.Serves (takeData i q payload s) := by
  unfold takeData
  split
  · exact serves_same
  · exact serves_dropForward i

theorem serves_takeDataDown (q slot : Byte) (payload : List Byte) : s.Serves (takeDataDown q slot payload s) := by
  unfold takeDataDown
  split
  · exact serves_linkError _ _
  · split
    · exact serves_onPort_same (f := fun p => { p with downstream := p.downstream ++ [⟨q, payload⟩] }) _
    · exact serves_dropForward _

theorem serves_announce (q : Byte) (amount : Nat) : s.Serves (s.announce q amount) := by
  unfold State.announce
  dsimp only
  split <;> exact serves_same

theorem serves_takeBudget (q : Byte) (amount : Nat) (urgency : Urgency) : s.Serves (takeBudget q amount urgency s) := by
  unfold takeBudget
  split
  · have hworked : s.Serves (recompute (s.announce q amount)) := (serves_announce q amount).trans serves_recompute
    refine (hworked.trans (serves_requestOnChange s.bud.limit urgency)).trans ?_
    unfold immediateIfOver
    split
    · exact serves_budgetRound .immediate
    · exact .refl _
  · exact .refl s

/-! ## One port replaced -/

/-- A slot's port is replaced: the laws of the other slots are as they were. -/
theorem presentAt_setPort_other {i j : Slot} {q : SlotPort} (hj : j ≠ i) (h : s.PresentAt j) :
    (s.setPort i q).PresentAt j := by
  have hport := port_setPort_other s i j q hj
  exact ⟨fun hi => hport ▸ h.state hi, by rw [hport, enableValue_congr (congrArg _ hport) rfl, h.enable]⟩

theorem shapedFor_setPort_other {i j : Slot} {q : SlotPort} {r : Policy} (hj : j ≠ i) (h : s.ShapedFor r j) :
    (s.setPort i q).ShapedFor r j := by
  have hport := port_setPort_other s i j q hj
  exact ⟨hport ▸ h.port, fun hr => hport ▸ h.state hr⟩

/-- What a port must be for its slot to keep R102 and R103. -/
theorem presentAt_setPort {i : Slot} {q : SlotPort} (hstate : i ∈ s.heldSlots → q.state = .present)
    (henable : q.enable = (decide (q.state = .present) && s.holdsGrant i)) : (s.setPort i q).PresentAt i := by
  refine ⟨fun hi => ?_, ?_⟩
  · rw [port_setPort_self]
    exact hstate hi
  · rw [enableValue_eq, port_setPort_self]
    exact henable

theorem shapedFor_setPort {i : Slot} {q : SlotPort} {r : Policy} (hq : q.shaped = true)
    (hstate : s.part = .running → (q.state = .disabled ↔ r.enabled = false)) : (s.setPort i q).ShapedFor r i := by
  refine ⟨?_, fun hr => ?_⟩ <;> rw [port_setPort_self]
  · exact hq
  · exact hstate hr

/-- A port is replaced by one that keeps the laws of its slot. -/
theorem keeps_setPort {i : Slot} {q : SlotPort} (hpresent : s.PresentAt i → (s.setPort i q).PresentAt i)
    (hshaped : s.ShapedAt i → (s.setPort i q).ShapedAt i) : s.Keeps (s.setPort i q) where
  present j h := by
    by_cases hj : j = i
    · subst hj
      exact hpresent h
    · exact presentAt_setPort_other hj h
  shaped j h := by
    by_cases hj : j = i
    · subst hj
      exact hshaped h
    · exact shapedFor_setPort_other hj h

/-- A port that keeps its slot's state and its enable output. -/
theorem keeps_setPort_same {i : Slot} {q : SlotPort} (hstate : q.state = (s.port i).state)
    (henable : q.enable = (s.port i).enable) (hshaped : (s.port i).shaped = true → q.shaped = true) :
    s.Keeps (s.setPort i q) :=
  keeps_setPort
    (fun h => presentAt_setPort (fun hi => hstate.trans (h.state hi)) (by rw [henable, hstate, h.enable, enableValue_eq]))
    fun h => shapedFor_setPort (hshaped h.port) fun hr => by rw [hstate]; exact h.state hr

/-- A slot of which nothing is held takes another state, with its output deasserted, or PRESENT. -/
theorem keeps_setPort_entered {i : Slot} {q : SlotPort} (hfrom : (s.port i).state ≠ .disabled)
    (hto : q.state ≠ .disabled) (hheld : s.PresentAt i → i ∈ s.heldSlots → q.state = .present)
    (henable : s.PresentAt i → q.enable = (decide (q.state = .present) && s.holdsGrant i))
    (hshaped : (s.port i).shaped = true → q.shaped = true) : s.Keeps (s.setPort i q) :=
  keeps_setPort (fun h => presentAt_setPort (hheld h) (henable h)) fun h =>
    shapedFor_setPort (hshaped h.port) fun hr => ⟨fun hq => absurd hq hto, fun he => absurd ((h.state hr).2 he) hfrom⟩

/-! ## The slots -/

/-- R99: proof of life in a state in which the module is known. -/
theorem shaped_heard {i : Slot} (hd : (s.port i).state ≠ .disabled) (hv : (s.port i).state ≠ .vacant)
    (h : (s.port i).shaped = true) : (s.heard i).shaped = true := by
  unfold State.heard
  cases hst : (s.port i).state <;> simp_all [SlotPort.shaped, lostMisses]

theorem heard_enable (i : Slot) : (s.heard i).enable = (s.port i).enable := by unfold State.heard; split <;> rfl

theorem keeps_onHearing {i : Slot} (hd : (s.port i).state ≠ .disabled) (hv : (s.port i).state ≠ .vacant) :
    s.Keeps (s.onHearing i) :=
  keeps_setPort_same (heard_state i) (heard_enable i) (shaped_heard hd hv)

/-- A module's frame, whatever its handling keeps (R6, R99). -/
theorem keeps_moduleFrame (i : Slot) {handle : State → State} (h : ∀ u : State, u.Keeps (handle u)) :
    s.Keeps (moduleFrame i handle s) := by
  by_cases hh : s.hands i
  · rw [moduleFrame_of_hands hh]
    obtain ⟨-, hd, hv⟩ := hh
    exact (keeps_onHearing hd hv).trans (h _)
  · by_cases hr : s.receives (.slot i) = true
    · have hparts : s.active = true ∧ (s.port i).state ≠ .disabled := by simpa [State.receives] using hr
      have hv : (s.port i).state = .vacant := by
        by_contra hv
        exact hh ⟨hparts.1, hparts.2, hv⟩
      rw [moduleFrame_of_vacant hparts.1 hv]
      exact (serves_setReceiver (.slot i) huntingReceiver).keeps
    · rw [moduleFrame_of_not_receives (by simpa using hr)]
      exact .refl s

theorem keeps_hunting (i : Slot) : s.Keeps (s.setPort i (s.hunting i)) :=
  keeps_setPort_same rfl rfl id

/-- A slot that is not PRESENT has its output deasserted (R103). -/
theorem State.PresentAt.enable_eq_false {i : Slot} (h : s.PresentAt i) (hp : (s.port i).state ≠ .present) :
    (s.port i).enable = false := h.enable.trans (enableValue_of_not_present hp)

/-- A slot enters PRESENT with the values just declared, its output by what it holds (R98, R101, R103). -/
theorem keeps_enterPresent_declared {i : Slot} {d : Declared} {q : SlotPort} (hfrom : (s.port i).state ≠ .disabled)
    (hq : (s.port i).shaped = true → { q with declared := some d, state := .present }.shaped = true) :
    s.Keeps ((s.setPort i { q with declared := some d }).enterKnown i .present .slotJoined) := by
  rw [enterPresent_declared]
  refine .trans (keeps_setPort_entered
    (q := { q with declared := some d, state := .present, enable := s.holdsGrant i }) hfrom ?_ (fun _ _ => rfl) ?_ hq)
    (serves_raise _ _ _).keeps
  · simp
  · simp

/-- A slot that is not PRESENT, and so holds nothing, enters MISMATCH with the values just declared (R98). -/
theorem keeps_enterMismatch_declared {i : Slot} {d : Declared} {q : SlotPort} (hfrom : (s.port i).state ≠ .disabled)
    (hp : (s.port i).state ≠ .present)
    (hq : (s.port i).shaped = true → { q with declared := some d, state := .mismatch }.shaped = true) :
    s.Keeps ((s.setPort i { q with declared := some d }).enterKnown i .mismatch .slotMismatch) := by
  rw [enterMismatch_declared]
  refine .trans (keeps_setPort_entered
    (q := { q with declared := some d, state := .mismatch, enable := false }) hfrom ?_ ?_ ?_ hq)
    (serves_raise _ _ _).keeps
  · simp
  · exact fun h hi => absurd hi (h.notMem_heldSlots hp)
  · simp

/-- A port that declares other values, but declares some where it did. -/
theorem shaped_declared {p : SlotPort} {x : Option Declared} (hx : x.isSome = p.declared.isSome)
    (h : p.shaped = true) : { p with declared := x }.shaped = true := by
  have hnone : x.isNone = p.declared.isNone := by rw [← Option.not_isSome, hx, Option.not_isSome]
  simpa only [SlotPort.shaped, hx, hnone] using h

/-- A known module is heard, and declares other values (R99, R101). -/
theorem keeps_heard_declared {i : Slot} {x : Option Declared} (hd : (s.port i).state ≠ .disabled)
    (hv : (s.port i).state ≠ .vacant) (hx : (s.port i).shaped = true → x.isSome = (s.port i).declared.isSome) :
    s.Keeps (s.setPort i { s.heard i with declared := x }) :=
  keeps_setPort_same (heard_state i) (heard_enable i) fun h =>
    shaped_declared (by rw [heard_declared]; exact hx h) (shaped_heard hd hv h)

/-- R97, R98, R101: a PRESENT frame, by the slot's state and its window. -/
theorem keeps_takePresent (i : Slot) (d : Declared) : s.Keeps (takePresent i d s) := by
  by_cases ha : s.active = true
  case neg => rw [takePresent_of_not_receives (by simp [State.receives, ha])]; exact .refl s
  cases hst : (s.port i).state with
  | disabled => rw [takePresent_of_not_receives (by simp [State.receives, hst])]; exact .refl s
  | vacant =>
    by_cases hw : (s.port i).answerDeadline = none
    · rw [takePresent_unasked ha (.inl hst) hw]
      exact keeps_hunting i
    · rw [takePresent_vacant ha hst hw]
      refine keeps_setPort_entered (by simp [hst]) (by simp) (fun h hi => ?_) (fun h => ?_) fun h => ?_
      · exact absurd hi (h.notMem_heldSlots (by simp [hst]))
      · simpa using h.enable_eq_false (by simp [hst])
      · simp_all [SlotPort.shaped]
  | joining =>
    by_cases hw : (s.port i).answerDeadline = none
    · rw [takePresent_unasked ha (.inr hst) hw]
      exact keeps_hunting i
    · rw [takePresent_joining ha hst hw]
      split
      · refine keeps_enterPresent_declared (q := s.joinedPort i d) (by simp [hst]) fun h => ?_
        simp_all [SlotPort.shaped, State.joinedPort, lostMisses]
      · refine keeps_enterMismatch_declared (q := s.joinedPort i d) (by simp [hst]) (by simp [hst]) fun h => ?_
        simp_all [SlotPort.shaped, State.joinedPort, lostMisses]
  | present =>
    rw [takePresent_known ha (.inl hst)]
    exact keeps_heard_declared (by simp [hst]) (by simp [hst]) fun _ => Option.isSome_map
  | penalty =>
    rw [takePresent_known ha (.inr hst)]
    exact keeps_heard_declared (by simp [hst]) (by simp [hst]) fun _ => Option.isSome_map
  | mismatch =>
    rw [takePresent_mismatch ha hst]
    have hheard := shaped_heard (s := s) (i := i) (by simp [hst]) (by simp [hst])
    have hstate := (heard_state (s := s) i).trans hst
    split
    · refine keeps_enterPresent_declared (q := s.heard i) (by simp [hst]) fun h => ?_
      have := hheard h
      simp_all [SlotPort.shaped]
    · refine keeps_heard_declared (by simp [hst]) (by simp [hst]) fun h => ?_
      simp_all [SlotPort.shaped]

theorem keeps_expireProbe (i : Slot) : s.Keeps (expireProbe i s) := by
  by_cases ha : s.active = true
  case neg => rw [expireProbe_of_nothing (.inl (by simpa using ha))]; exact .refl s
  cases hd : (s.port i).probeDeadline with
  | none => rw [expireProbe_of_nothing (.inr hd)]; exact .refl s
  | some d =>
    rw [expireProbe_of_deadline ha hd]
    have hordered : s.Serves ((s.reach d).order i .probe) := (serves_reach d).trans (serves_order i _)
    have hprobe : (((s.reach d).order i .probe).port i).probeDeadline = some d :=
      (hordered.ports i).probeDeadline.trans hd
    refine hordered.keeps.trans (keeps_setPort_same rfl rfl fun h => ?_)
    generalize ((s.reach d).order i .probe).port i = p at h hprobe
    cases hst : p.state <;> simp_all [SlotPort.shaped]

/-- The port of a slot that becomes VACANT is shaped as VACANT asks (R96). -/
theorem shaped_opened {p : SlotPort} {d : Time} (h : p.CountsFit) : (p.opened d).shaped = true := by
  obtain ⟨hf, hc, hs, hd⟩ := h
  simp [SlotPort.shaped, SlotPort.opened, hf, hc, hs, hd]

/-- R95, R96: a slot that holds nothing becomes VACANT, where it is not to be DISABLED. -/
theorem presentAt_setPort_vacant {i : Slot} {q : SlotPort} (hnone : i ∉ s.heldSlots) (hq : q.state = .vacant)
    (henable : q.enable = false) : (s.setPort i q).PresentAt i :=
  presentAt_setPort (fun hi => absurd hi hnone) (by simp [hq, henable])

theorem shapedFor_setPort_vacant {i : Slot} {q : SlotPort} {r : Policy} (hq : q.state = .vacant)
    (hshaped : q.shaped = true) (henabled : s.part = .running → r.enabled = true) :
    (s.setPort i q).ShapedFor r i :=
  shapedFor_setPort hshaped fun hr => by simp [hq, henabled hr]

/-- R94: while RUNNING, the record of a slot that is not DISABLED is enabled. -/
theorem State.ShapedAt.enabled {i : Slot} (h : s.ShapedAt i) (hd : (s.port i).state ≠ .disabled)
    (hr : s.part = .running) : (s.policy i).enabled = true := by
  by_contra he
  exact hd ((h.state hr).2 (by simpa using he))

/-- R100: a slot is lost from whatever port it has, which need be in no shape but for its counts. -/
theorem keeps_lose {i : Slot} {p : SlotPort} (hd : (s.port i).state ≠ .disabled)
    (hcounts : (s.port i).CountsFit → p.CountsFit) : s.Keeps ((s.setPort i p).lose i) := by
  obtain ⟨torn, htorn⟩ : ∃ torn, tearAndFollow i ((s.setPort i p).deassert i) = torn := ⟨_, rfl⟩
  have hserves : (s.setPort i p).Serves torn := htorn ▸ serves_deassert_tearAndFollow i
  have hnone : i ∉ torn.heldSlots := htorn ▸ notMem_heldSlots_tearAndFollow i
  rw [lose_eq htorn]
  refine .trans ⟨fun j h => ?_, fun j h => ?_⟩ (serves_raise _ _ _).keeps
  · by_cases hj : j = i
    · subst hj
      exact presentAt_setPort_vacant hnone rfl rfl
    · exact presentAt_setPort_other hj (hserves.presentAt (presentAt_setPort_other hj h))
  · unfold State.ShapedAt
    rw [show (torn.setPort i _).policy j = s.policy j from hserves.policy j]
    by_cases hj : j = i
    · subst hj
      refine shapedFor_setPort_vacant rfl (shaped_opened ?_) fun hr => h.enabled hd (hserves.part ▸ hr)
      have hport := hserves.ports j
      rw [port_setPort_self] at hport
      exact hport.counts (hcounts (.of_shaped h.port))
    · exact shapedFor_setPort_other hj (hserves.shapedFor (shapedFor_setPort_other hj h))

/-- R97 to R100: a window that closes unanswered. -/
theorem keeps_closeWindow (i : Slot) : s.Keeps (closeWindow i s) := by
  cases hst : (s.port i).state with
  | disabled =>
    rw [closeWindow_absent (.inl hst)]
    refine keeps_setPort_same rfl rfl fun h => ?_
    simp_all [SlotPort.shaped]
  | vacant =>
    rw [closeWindow_absent (.inr hst)]
    refine keeps_setPort_same rfl rfl fun h => ?_
    simp_all [SlotPort.shaped]
  | joining =>
    rw [closeWindow_joining hst]
    refine keeps_setPort_entered (by simp [hst]) (by simp) (fun h hi => ?_) (fun _ => by simp) fun h => ?_
    · exact absurd hi (h.notMem_heldSlots (by simp [hst]))
    · simp_all [SlotPort.shaped]
  | _ =>
    rw [closeWindow_known (by simp [hst])]
    split
    · next hfew =>
      refine keeps_setPort_same rfl rfl fun h => ?_
      simp_all [SlotPort.shaped, SlotPort.missed]
    · exact keeps_lose (by simp [hst]) id

theorem keeps_expireAnswer (i : Slot) : s.Keeps (expireAnswer i s) := by
  unfold expireAnswer
  split
  · exact .refl s
  · split
    · exact (serves_reach _).keeps.trans (keeps_closeWindow i)
    · exact .refl s

/-- R91: the end of a penalty hold. -/
theorem keeps_endPenalty (i : Slot) : s.Keeps (endPenalty i s) := by
  by_cases hh : s.active = true ∧ (s.port i).state = .penalty
  case neg =>
    unfold endPenalty
    split
    · exact .refl s
    · rw [if_neg hh]
      exact .refl s
  obtain ⟨ha, hst⟩ := hh
  cases hd : (s.port i).penaltyEnd with
  | none =>
    simp only [endPenalty, hd]
    exact .refl s
  | some d =>
    rw [endPenalty_of_deadline ha hst hd]
    refine (serves_reach d).keeps.trans ?_
    have hfrom : ((s.reach d).port i).state = .penalty := hst
    dsimp only
    split
    · rw [onPort_present_evalEnable rfl, port_setPort_self, setPort_setPort]
      refine keeps_setPort_entered (by simp [hfrom]) (by simp) (fun _ _ => rfl) (fun _ => ?_) fun h => ?_
      · simp only [decide_true, Bool.true_and]
        rfl
      · have h' : (s.port i).shaped = true := h
        simp_all [SlotPort.shaped]
    · rw [enterMismatch_eq, port_setPort_self, setPort_setPort]
      refine .trans (keeps_setPort_entered (by simp [hfrom]) (by simp) (fun h hi => ?_) (fun _ => by simp)
        fun h => ?_) (serves_raise _ _ _).keeps
      · exact absurd hi (h.notMem_heldSlots (by simp [hfrom]))
      · have h' : (s.port i).shaped = true := h
        simp_all [SlotPort.shaped]

/-- R109: a port after PORT_RESET's stages 3 to 6. -/
theorem shaped_restarted {p : SlotPort} (hd : p.state = .disabled) (h : p.shaped = true) :
    { p.restart with orders := [], replies := [], downstream := [] }.shaped = true := by
  simp_all [SlotPort.shaped, SlotPort.restart]

/-- R109: PORT_RESET, in a RUNNING part, where a slot whose record is not enabled is DISABLED. -/
theorem keeps_resetPort (i : Slot) (hr : s.part = .running) : s.Keeps (s.resetPort i) := by
  obtain ⟨torn, htorn⟩ : ∃ torn, tearAndFollow i (s.deassert i) = torn := ⟨_, rfl⟩
  have hserves : s.Serves torn := htorn ▸ serves_deassert_tearAndFollow i
  have hnone : i ∉ torn.heldSlots := htorn ▸ notMem_heldSlots_tearAndFollow i
  rw [resetPort_eq htorn]
  dsimp only
  refine hserves.keeps.trans (keeps_setPort (fun h => ?_) fun h => ?_)
  · split
    · exact presentAt_setPort_vacant hnone rfl rfl
    · refine presentAt_setPort (fun hi => absurd hi hnone) ?_
      exact h.enable.trans (enableValue_eq i)
  · have hpolicy : ∀ q : SlotPort, (torn.setPort i q).policy i = s.policy i := fun _ => hserves.policy i
    unfold State.ShapedAt at h ⊢
    rw [hserves.policy] at h
    rw [hpolicy]
    split
    · next he =>
      have hcounts : SlotPort.CountsFit { (torn.port i).restart with orders := [], replies := [], downstream := [] } :=
        ⟨Nat.zero_le _, Nat.zero_le _, Nat.zero_le _, Nat.zero_le _⟩
      exact shapedFor_setPort_vacant rfl (shaped_opened hcounts) fun _ => he
    · next he =>
      have hd : (torn.port i).state = .disabled := (h.state (hserves.part.trans hr)).2 (by simpa using he)
      exact shapedFor_setPort (shaped_restarted hd h.port) fun hr' => h.state hr'

/-! ## Expiries -/

theorem serves_expireContract (i : Slot) (g : Byte) (deadline? : Contract → Option Time) {act : Contract → State → State}
    (h : ∀ c (u : State), u.Serves (act c u)) : s.Serves (expireContract i g deadline? act s) := by
  unfold expireContract
  split
  · exact .refl s
  · split
    · exact .refl s
    · split
      · exact (serves_reach _).trans (h _ _)
      · exact .refl s

theorem serves_closeUnaccepted (i : Slot) (g : Byte) : s.Serves (closeUnaccepted i g s) :=
  ((serves_closeContract i g).trans (serves_order i _)).trans serves_runPass

theorem serves_closeExpired (i : Slot) (g : Byte) (c : Contract) : s.Serves (closeExpired i g c s) :=
  ((serves_closeContract i g).trans (serves_order i _)).trans (serves_afterClose _)

theorem serves_takeSilence (i : Slot) (g : Byte) : s.Serves (takeSilence i g s) := by
  unfold takeSilence
  split
  · exact (serves_onGrant i g _).trans (serves_violate i _ _)
  · exact serves_violate i _ _

theorem serves_expireWait (i : Slot) (g : Byte) : s.Serves (expireWait i g s) := by
  unfold expireWait
  split
  · exact .refl s
  · split
    · exact .refl s
    · split
      · exact ((((serves_reach _).trans (serves_leaveQueue i g)).trans (serves_refuse i g _)).trans
          (serves_raise _ _ _)).trans serves_runPass
      · exact .refl s

theorem serves_expireStale : s.Serves (expireStale s) := by
  unfold expireStale
  split
  · exact .refl s
  · next d _ =>
    split
    · have hstale : s.Serves { s.reach d with bud.staleDeadline := none, bud.stale := true } := serves_same
      exact ((hstale.trans (serves_raise _ _ _)).trans serves_recompute).trans (serves_requestOnChange _ _)
    · exact .refl s

theorem serves_expireRetransmit : s.Serves (expireRetransmit s) := by
  unfold expireRetransmit
  (repeat' split) <;> exact serves_same

/-! ## The Profile Store and the transmitters -/

theorem serves_completeErase : s.Serves (completeErase s) := by
  unfold completeErase
  split <;> exact serves_same

theorem serves_completeSave (asWritten : Bool) : s.Serves (completeSave asWritten s) := by
  unfold completeSave
  (repeat' split) <;> exact serves_same

/-- R162: a load puts records in the shadow copy alone, so that no slot's record changes. -/
theorem serves_completeLoad : s.Serves (completeLoad s) := by
  have hend : ∀ (p : Slot) (u : State), u.Serves (({ u with store.op := none } : State).raise .storeDone none p.val) :=
    fun _ _ => serves_same
  have hplaced : ∀ img : Image, s.Serves (placeLoaded img s) := fun img =>
    .trans (.trans (t := s.loading img) serves_same serves_recompute) (serves_requestOnConfig _)
  unfold completeLoad
  split
  · dsimp only
    split
    · exact (hplaced _).trans (hend _ _)
    · exact hend _ s
    · exact hend _ s
  all_goals exact .refl s

theorem beside_nextFrame {p q : SlotPort} {f : SlotFrame} {x : Option SlotTransmission}
    (h : p.nextFrame = some (f, q)) : p.Beside { q with transmission := x } := by
  unfold SlotPort.nextFrame at h
  split at h <;> cases h <;> exact ⟨rfl, rfl, rfl, rfl, rfl, rfl, rfl, rfl, id⟩

theorem serves_beginSlot (i : Slot) : s.Serves (beginSlot i s) := by
  unfold beginSlot
  split
  · split
    · exact .refl s
    · next f p hf =>
      exact serves_onPort (f := fun _ => { p with transmission := some ⟨f, f.bytes⟩ }) i (beside_nextFrame hf)
  · exact .refl s

theorem serves_beginUpstream : s.Serves (beginUpstream s) := by
  unfold beginUpstream
  (repeat' split) <;> exact serves_same

theorem serves_endUpstream : s.Serves (endUpstream s) := by
  unfold endUpstream
  (repeat' split) <;> exact serves_same

/-! ## A commit (R117 to R119, R40, R41) -/

theorem serves_foldl {α : Type} {f : State → α → State} (h : ∀ (u : State) (a : α), u.Serves (f u a)) (l : List α) :
    ∀ s : State, s.Serves (l.foldl f s) := by
  induction l with
  | nil => exact fun s => .refl s
  | cons a r ih => exact fun s => (h s a).trans (ih _)

theorem state_foldl {α : Type} {f : State → α → State} {i : Slot}
    (h : ∀ (u : State) (a : α), ((f u a).port i).state = (u.port i).state) (l : List α) :
    ∀ s : State, ((l.foldl f s).port i).state = (s.port i).state := by
  induction l with
  | nil => exact fun _ => rfl
  | cons a r ih => exact fun s => (ih _).trans (h s a)

theorem serves_closeForPolicy (i : Slot) : s.Serves (s.closeForPolicy i) := by
  unfold State.closeForPolicy
  dsimp only
  refine .trans (.trans (serves_foldl (fun u c => serves_order i _) _ _) (serves_foldl (fun u e => ?_) _ _))
    (serves_removeSlot i (fun _ _ => rfl) (.refl _) rfl)
  exact (serves_leaveQueue i _).trans (serves_refuse i _ _)

theorem notMem_heldSlots_closeForPolicy (i : Slot) : i ∉ (s.closeForPolicy i).heldSlots :=
  notMem_heldSlots_removeSlot i

/-- A slot that a commit closes is still in its state when its frames have been placed. -/
theorem state_closeForPolicy (i : Slot) : ((s.closeForPolicy i).port i).state = (s.port i).state := by
  unfold State.closeForPolicy
  dsimp only
  rw [removeSlot_eq, State.port, get_set_self, state_foldl, state_foldl]
  · exact fun u c => (beside_order i _).state
  · exact fun u e => state_refuse i i _ _

/-- Stage 2 of a commit at a slot: every slot keeps R102 and R103, the other slots their shape, and this one takes the
shape that its new record asks, where it had the one that its old record asked. -/
structure State.Aligns (s t : State) (old : Policy) (i : Slot) : Prop where
  present : ∀ j, s.PresentAt j → t.PresentAt j
  other : ∀ j, j ≠ i → ∀ r, s.ShapedFor r j → t.ShapedFor r j
  self : s.ShapedFor old i → t.ShapedFor (s.policy i) i
  active : t.pol.active = s.pol.active

section Align

variable {i : Slot} {old : Policy}

theorem aligns_refl (h : s.ShapedFor old i → s.ShapedFor (s.policy i) i) : s.Aligns s old i :=
  ⟨fun _ => id, fun _ _ _ => id, h, rfl⟩

/-- A slot's contracts and claims are closed, or none of anything changes, and then its port is replaced. -/
theorem State.Serves.aligns {q : SlotPort} (h : s.Serves u) (hpresent : u.PresentAt i → (u.setPort i q).PresentAt i)
    (hshaped : u.ShapedFor old i → (u.setPort i q).ShapedFor (s.policy i) i) : s.Aligns (u.setPort i q) old i where
  present j hj := by
    by_cases hji : j = i
    · subst hji
      exact hpresent (h.presentAt hj)
    · exact presentAt_setPort_other hji (h.presentAt hj)
  other j hji r hj := shapedFor_setPort_other hji (h.shapedFor hj)
  self hs := hshaped (h.shapedFor hs)
  active := h.active

theorem State.Aligns.raise (h : s.Aligns t old i) (k : EventKind) (o : Option Origin) (d : Nat) :
    s.Aligns (t.raise k o d) old i where
  present j hj := (serves_raise k o d).presentAt (h.present j hj)
  other j hji r hj := (serves_raise k o d).shapedFor (h.other j hji r hj)
  self hs := (serves_raise k o d).shapedFor (h.self hs)
  active := h.active

/-- R95: the port of a DISABLED slot. -/
theorem aligns_disable (h : s.Serves u) (hnone : u.PresentAt i → i ∉ u.heldSlots)
    (hn : (s.policy i).enabled = false) : s.Aligns (u.disable i) old i := by
  rw [disable_eq]
  refine h.aligns (fun hu => presentAt_setPort (fun hi => absurd hi (hnone hu)) (by simp)) fun hu => ?_
  refine shapedFor_setPort ?_ fun _ => by simp [hn]
  obtain ⟨hf, hc, hs, hd⟩ := SlotPort.CountsFit.of_shaped hu.port
  simp [SlotPort.shaped, hf, hc, hs, hd]

theorem aligns_closing (ho : old.enabled = true) (hn : (s.policy i).enabled = false) :
    s.Aligns (alignSlot old i s) old i := by
  rw [alignSlot_closing ho hn]
  split
  · exact aligns_disable (serves_closeForPolicy i) (fun _ => notMem_heldSlots_closeForPolicy i) hn
  · next hp => exact aligns_disable (.refl s) (fun h => h.notMem_heldSlots hp) hn

theorem aligns_opening (ho : old.enabled = false) (hn : (s.policy i).enabled = true) :
    s.Aligns (alignSlot old i s) old i := by
  rw [alignSlot_opening ho hn]
  split
  · next hd =>
    rw [enterVacant_eq]
    refine (State.Serves.refl s).aligns (fun h => ?_) fun h => ?_
    · exact presentAt_setPort_vacant (h.notMem_heldSlots (by simp [hd])) rfl rfl
    · exact shapedFor_setPort_vacant rfl (shaped_opened (p := s.port i) (.of_shaped h.port)) fun _ => hn
  · next hd =>
    exact aligns_refl fun h => ⟨h.port, fun hr => absurd ((h.state hr).2 ho) hd⟩

theorem aligns_staying (ho : old.enabled = true) (hn : (s.policy i).enabled = true) :
    s.Aligns (alignSlot old i s) old i := by
  rw [alignSlot_staying ho hn]
  split
  · next hp =>
    obtain ⟨hp, -, -⟩ := hp
    rw [enterMismatch_eq]
    have hstate := (state_closeForPolicy (s := s) i).trans hp
    refine ((serves_closeForPolicy i).aligns (fun _ => ?_) fun h => ?_).raise _ _ _
    · exact presentAt_setPort (fun hi => absurd hi (notMem_heldSlots_closeForPolicy i)) (by simp)
    · refine shapedFor_setPort ?_ fun _ => by simp [hn]
      have hport := h.port
      simp_all [SlotPort.shaped]
  · split
    · next hm =>
      obtain ⟨hm, -⟩ := hm
      rw [enterPresent_eq]
      refine ((State.Serves.refl s).aligns (fun _ => presentAt_setPort (fun _ => rfl) (by simp)) fun h => ?_).raise _ _ _
      refine shapedFor_setPort ?_ fun _ => by simp [hn]
      have hport := h.port
      simp_all [SlotPort.shaped]
    · exact aligns_refl fun h => ⟨h.port, fun hr => (h.state hr).trans (by rw [ho, hn])⟩

/-- R118 at one slot, by the old and the new enabled field. -/
theorem aligns_alignSlot : s.Aligns (alignSlot old i s) old i := by
  cases ho : old.enabled <;> cases hn : (s.policy i).enabled
  case false.false =>
    rw [alignSlot_disabled ho hn]
    exact aligns_refl fun h => ⟨h.port, fun hr => (h.state hr).trans (by rw [ho, hn])⟩
  case false.true => exact aligns_opening ho hn
  case true.false => exact aligns_closing ho hn
  case true.true => exact aligns_staying ho hn

end Align

/-- Stage 2 of a commit, slot after slot (R117). -/
theorem aligns_foldl (old : Vector Policy 8) (l : List Slot) : ∀ s : State, l.Nodup →
    let t := l.foldl (fun s i => alignSlot (old.get i) i s) s
    t.pol.active = s.pol.active ∧ (∀ j, s.PresentAt j → t.PresentAt j)
      ∧ (∀ j, j ∉ l → ∀ r, s.ShapedFor r j → t.ShapedFor r j)
      ∧ ∀ j, j ∈ l → s.ShapedFor (old.get j) j → t.ShapedFor (s.policy j) j := by
  induction l with
  | nil => exact fun s _ => ⟨rfl, fun _ => id, fun _ _ _ => id, by simp⟩
  | cons i rest ih =>
    intro s hl
    obtain ⟨hi, hrest⟩ := List.nodup_cons.1 hl
    have hfirst : s.Aligns (alignSlot (old.get i) i s) (old.get i) i := aligns_alignSlot
    obtain ⟨hactive, hpresent, hother, hself⟩ := ih (alignSlot (old.get i) i s) hrest
    refine ⟨hactive.trans hfirst.active, fun j => hpresent j ∘ hfirst.present j, fun j hj r h => ?_, fun j hj h => ?_⟩
    · rw [List.mem_cons, not_or] at hj
      exact hother j hj.2 r (hfirst.other j hj.1 r h)
    · by_cases hji : j = i
      · subst hji
        exact hother j hi _ (hfirst.self h)
      · have hpolicy : (alignSlot (old.get i) i s).policy j = s.policy j := by simp [State.policy, hfirst.active]
        rw [← hpolicy]
        exact hself j ((List.mem_cons.1 hj).resolve_left hji) (hfirst.other j hji _ h)

/-- Stages 1 and 2 of a commit: the shadow records are active, and every slot has the state that its record asks. -/
theorem keeps_alignSlots : s.Keeps (alignSlots s.pol.active s.swapped) := by
  obtain ⟨hactive, hpresent, -, hself⟩ := aligns_foldl s.pol.active allSlots s.swapped (by decide)
  refine ⟨fun i h => hpresent i ⟨h.state, h.enable⟩, fun i h => ?_⟩
  have hpolicy : (alignSlots s.pol.active s.swapped).policy i = s.swapped.policy i :=
    congrArg (fun v : Vector Policy 8 => v.get i) hactive
  unfold State.ShapedAt
  rw [hpolicy]
  exact hself i (mem_allSlots i) ⟨h.port, h.state⟩

theorem serves_checkCeiling (c : Contract) : s.Serves (checkCeiling c s) := by
  unfold checkCeiling
  split
  · split
    · exact (serves_removeContract _ _).trans (serves_order _ _)
    · exact serves_issueShed _ _ _ _
    · exact .refl s
  · exact .refl s

theorem serves_checkEntry (e : QueueEntry) : s.Serves (checkEntry e s) := by
  unfold checkEntry
  split
  · exact (serves_leaveQueue _ _).trans (serves_refuse _ _ _)
  · exact .refl s

theorem mem_foldl_insertEntry (l : List QueueEntry) : ∀ (acc : List QueueEntry) (x : QueueEntry),
    x ∈ l.foldl (fun sorted e => s.insertEntry e sorted) acc → x ∈ acc ∨ x ∈ l := by
  induction l with
  | nil => exact fun _ _ => .inl
  | cons e r ih =>
    intro acc x hx
    rcases ih _ x hx with h | h
    · rw [(insertEntry_perm s e acc).mem_iff, List.mem_cons] at h
      rcases h with rfl | h
      · exact .inr (by simp)
      · exact .inl h
    · exact .inr (by simp [h])

/-- R40: the rebuilt queue holds entries of the queue. -/
theorem serves_rebuildQueue : s.Serves s.rebuildQueue := by
  refine serves_of_tables rfl (heldSlots_subset (fun _ => id) fun j hj => ?_) fun _ => rfl
  obtain ⟨e, he, rfl⟩ := List.mem_map.1 hj
  rcases mem_foldl_insertEntry _ _ _ he with h | h
  · simp at h
  · obtain ⟨k, -, hk⟩ := List.mem_filterMap.1 h
    exact List.mem_map_of_mem (List.mem_of_find?_eq_some hk)

theorem keeps_runCommit : s.Keeps (runCommit s).1 := by
  unfold runCommit acked
  split
  · dsimp only
    rw [commitStages_eq]
    have hchecked : (alignSlots s.pol.active s.swapped).Serves (commitChecks s.pol.active s.swapped) :=
      (serves_foldl (fun _ c => serves_checkCeiling c) _ _).trans (serves_foldl (fun _ e => serves_checkEntry e) _ _)
    have hsettled := ((hchecked.trans serves_rebuildQueue).trans serves_evalFlags).trans serves_runPass
    exact keeps_alignSlots.trans (hsettled.trans (serves_budgetRound .normal)).keeps
  · exact .refl s

/-! ## The management commands -/

theorem keeps_supplyFrame {handle : State → State} (h : ∀ u : State, u.active = true → u.Keeps (handle u)) :
    s.Keeps (supplyFrame handle s) := by
  unfold supplyFrame
  split
  · next ha => exact (serves_setReceiver .supply huntingReceiver).keeps.trans (h _ ha)
  · exact .refl s

/-- R129: a command's effect comes with its ANSWER, which stands beside the slots. -/
theorem keeps_takeCommand (q : Byte) {run : State → State × Settle}
    (h : ∀ u : State, u.active = true → u.Keeps (run u).1) : s.Keeps (takeCommand q run s) := by
  refine keeps_supplyFrame fun u ha => ?_
  split
  · exact .refl u
  · unfold answerCommand
    split
    · exact (State.Serves.keeps serves_same)
    · exact (h u ha).trans (State.Serves.keeps serves_same)

theorem serves_runReadEntry (table index : Byte) : s.Serves (runReadEntry table index s).1 := by
  unfold runReadEntry naked
  (repeat' split) <;> exact .refl s

theorem serves_runClearEvents (count : Byte) (kinds : List Byte) : s.Serves (runClearEvents count kinds s).1 := by
  unfold runClearEvents naked acked
  (repeat' split) <;> exact serves_same

theorem serves_runWritePolicy (slot : Byte) (record : List Byte) : s.Serves (runWritePolicy slot record s).1 := by
  unfold runWritePolicy naked acked
  (repeat' split) <;> exact serves_same

theorem serves_runForceShed (slot g : Byte) (target : Nat) : s.Serves (runForceShed slot g target s).1 := by
  unfold runForceShed naked acked
  split
  · exact .refl s
  · split
    · exact .refl s
    · split
      · exact .refl s
      · split
        · exact .refl s
        · exact serves_issueShed _ _ _ _

theorem serves_runForceClose (slot g : Byte) : s.Serves (runForceClose slot g s).1 := by
  unfold runForceClose naked acked
  split
  · exact .refl s
  · split
    · exact .refl s
    · exact ((serves_closeContract _ _).trans (serves_order _ _)).trans (serves_afterClose _)

theorem serves_runForceCut (slot : Byte) : s.Serves (runForceCut slot s).1 := by
  unfold runForceCut naked acked
  split
  · exact .refl s
  · split
    · exact serves_cutAndFollow _ _
    · exact .refl s

theorem keeps_runPortReset (slot : Byte) (hr : s.part = .running) : s.Keeps (runPortReset slot s).1 := by
  unfold runPortReset naked acked
  split
  · exact .refl s
  · exact keeps_resetPort _ hr

theorem serves_runRestart : s.Serves (runRestart s).1 := by
  unfold runRestart naked acked
  split <;> exact serves_same

theorem serves_storeCommand (page : Byte) {own : Slot → State → State × Settle}
    (h : ∀ (p : Slot) (u : State), u.Serves (own p u).1) : s.Serves (storeCommand page own s).1 := by
  unfold storeCommand naked
  split
  · exact .refl s
  · split
    · exact .refl s
    · exact h _ s

theorem serves_ownErase (p : Slot) : s.Serves (ownErase p s).1 := by
  unfold ownErase naked acked
  split <;> exact serves_same

theorem serves_ownSave (p : Slot) : s.Serves (ownSave p s).1 := by
  unfold ownSave naked acked
  (repeat' split) <;> exact serves_same

theorem serves_ownLoad (p : Slot) : s.Serves (ownLoad p s).1 := by
  unfold ownLoad naked acked
  split <;> exact serves_same

theorem serves_configEffect (item : ConfigItem) : s.Serves (configEffect item s) := by
  have hfigures : s.Serves (requestOnConfig s.bud.limit (recompute s)) :=
    serves_recompute.trans (serves_requestOnConfig _)
  have hmarks : s.Serves (newMarks s) :=
    .trans (t := { s with bud := workOutMarks s.bud s.pol.items }) serves_same serves_evalWatermark
  cases item with
  | budgetCap => exact hfigures
  | safeBudget => exact hfigures
  | reserve => exact hfigures
  | highMark => exact hmarks
  | lowMark => exact hmarks
  | _ => exact .refl s

theorem serves_runSetConfig (item : Byte) (body : List Byte) : s.Serves (runSetConfig item body s).1 := by
  unfold runSetConfig naked acked
  split
  · exact .refl s
  · next it items _ => exact .trans (t := { s with pol.items := items }) serves_same (serves_configEffect it)

theorem active_running (h : s.active = true) : s.part = .running := by
  simp only [State.active, Bool.and_eq_true, beq_iff_eq] at h
  exact h.1

/-! ## Every command -/

theorem keeps_takeFrame (c : Instr) : s.Keeps (takeFrame c s) := by
  cases c with
  | claim i g want least => exact keeps_moduleFrame i fun _ => keeps_takeClaim i g _ _
  | accept i g => exact keeps_moduleFrame i fun _ => (serves_takeAccept i g).keeps
  | decline i g => exact keeps_moduleFrame i fun _ => (serves_takeDecline i g).keeps
  | release i g => exact keeps_moduleFrame i fun _ => (serves_takeRelease i g).keeps
  | adjust i g amount => exact keeps_moduleFrame i fun _ => (serves_takeAdjust i g _).keeps
  | renew i g => exact keeps_moduleFrame i fun _ => (serves_takeRenew i g).keeps
  | report i g measured => exact keeps_moduleFrame i fun _ => (serves_takeReport i g _).keeps
  | comply i g => exact keeps_moduleFrame i fun _ => (serves_takeComply i g).keeps
  | present i cls peak => exact keeps_takePresent i _
  | data i q payload => exact keeps_moduleFrame i fun _ => (serves_takeData i q payload).keeps
  | budget q amount urgency => exact keeps_supplyFrame fun _ _ => (serves_takeBudget q _ urgency).keeps
  | noticeAck q => exact keeps_supplyFrame fun _ _ => (State.Serves.keeps serves_same)
  | dataDown q slot payload => exact keeps_supplyFrame fun _ _ => (serves_takeDataDown q slot payload).keeps
  | queryStatus q => exact keeps_takeCommand q fun u _ => .refl u
  | readEntry q table index => exact keeps_takeCommand q fun _ _ => (serves_runReadEntry table index).keeps
  | writePolicy q slot record => exact keeps_takeCommand q fun _ _ => (serves_runWritePolicy slot record).keeps
  | discard q => exact keeps_takeCommand q fun _ _ => (State.Serves.keeps serves_same)
  | commit q => exact keeps_takeCommand q fun _ _ => keeps_runCommit
  | setConfig q item body => exact keeps_takeCommand q fun _ _ => (serves_runSetConfig item body).keeps
  | clearEvents q count kinds => exact keeps_takeCommand q fun _ _ => (serves_runClearEvents count kinds).keeps
  | forceShed q slot g target => exact keeps_takeCommand q fun _ _ => (serves_runForceShed slot g _).keeps
  | forceClose q slot g => exact keeps_takeCommand q fun _ _ => (serves_runForceClose slot g).keeps
  | forceCut q slot => exact keeps_takeCommand q fun _ _ => (serves_runForceCut slot).keeps
  | portReset q slot => exact keeps_takeCommand q fun _ ha => keeps_runPortReset slot (active_running ha)
  | storeErase q page => exact keeps_takeCommand q fun _ _ => (serves_storeCommand page fun p _ => serves_ownErase p).keeps
  | storeSave q page => exact keeps_takeCommand q fun _ _ => (serves_storeCommand page fun p _ => serves_ownSave p).keeps
  | storeLoad q page => exact keeps_takeCommand q fun _ _ => (serves_storeCommand page fun p _ => serves_ownLoad p).keeps
  | restart q => exact keeps_takeCommand q fun _ _ => serves_runRestart.keeps
  | _ => exact .refl s

theorem keeps_receiveOn (link : Link) (b : Byte) : s.Keeps (receiveOn link s b) := by
  unfold receiveOn
  split
  · dsimp only
    generalize hr : s.setReceiver link _ = heard
    have hheard : s.Keeps heard := hr ▸ (serves_setReceiver link _).keeps
    split
    · exact hheard
    · refine hheard.trans ?_
      unfold takeVerdict
      split
      · exact keeps_takeFrame _
      · exact .refl _
      · exact (serves_linkError link _).keeps
  · exact .refl s

theorem keeps_receiveAll (link : Link) (bytes : List Byte) : ∀ s : State, s.Keeps (bytes.foldl (receiveOn link) s) := by
  induction bytes with
  | nil => exact fun s => .refl s
  | cons b r ih => exact fun s => (keeps_receiveOn link b).trans (ih _)

/-- R111, R165: a reset leaves every slot DISABLED, and nothing is held. -/
theorem keeps_restarted (straps : BitVec 2) (asWritten : BitVec 8) : s.Keeps (s.restarted straps asWritten) := by
  have hport : ∀ i, (s.restarted straps asWritten).port i = Sys2Proof.Machine.resetPort := port_reset
  refine ⟨fun i _ => ⟨fun hi => ?_, ?_⟩, fun i _ => ⟨?_, fun hr => nomatch hr⟩⟩
  · simp [State.heldSlots, State.restarted, State.reset, resetAdmission] at hi
  · rw [enableValue_of_not_present] <;> rw [hport]
    · rfl
    · simp [Sys2Proof.Machine.resetPort]
  · rw [hport]
    decide

/-- R166: the scan's end makes the enabled slots VACANT, from ports and tables at their reset values. -/
theorem keeps_scanned (hports : ∀ i, s.port i = Sys2Proof.Machine.resetPort) (hadm : s.adm = resetAdmission)
    (records : Vector Policy 8) (items : LiveItems) (page : Option Slot) :
    s.Keeps (s.scanned records items page) := by
  obtain ⟨ports, hrest⟩ := scanned_rest s records items page
  have hport := port_scanned s records items page
  have hpolicy : ∀ i, (s.scanned records items page).policy i = records.get i := fun i => by rw [hrest]; rfl
  have htables : (s.scanned records items page).adm = resetAdmission := by rw [hrest]; exact hadm
  refine ⟨fun i _ => ⟨fun hi => ?_, ?_⟩, fun i _ => ⟨?_, fun _ => ?_⟩⟩
  · simp [State.heldSlots, htables, resetAdmission] at hi
  · rw [enableValue_of_not_present] <;> rw [hport, hports] <;> split <;>
      simp [SlotPort.opened, Sys2Proof.Machine.resetPort]
  · rw [hport, hports]
    split
    · exact shaped_opened (.of_shaped (by decide))
    · decide
  · rw [hport, hports, hpolicy]
    split
    · next he => simp [SlotPort.opened, he]
    · next he => simp [Sys2Proof.Machine.resetPort, he]

theorem keeps_endScan (hclean : s.StartsClean) : s.Keeps (endScan s) := by
  by_cases hpart : s.part = .starting
  · obtain ⟨hports, -, hadm, -⟩ := hclean hpart
    cases hc : choosePage s.store.pages with
    | none =>
      rw [endScan_of_none hpart hc]
      exact keeps_scanned hports hadm _ _ _
    | some choice =>
      rw [endScan_of_some hpart hc]
      exact keeps_scanned hports hadm _ _ _
  · rw [endScan, if_neg hpart]
    exact .refl s

/-- Every command keeps the laws of every slot. -/
theorem keeps_exec (hclean : s.StartsClean) (c : Instr) (h : exec c s = .next t) : s.Keeps t := by
  have hkeep : ∀ {u : State}, s.Keeps u → (Host.Outcome.next u : Out) = .next t → s.Keeps t := by
    rintro u hu ⟨⟩
    exact hu
  have hframe : ∀ d : Instr, (Host.Outcome.next (takeFrame d s) : Out) = .next t → s.Keeps t := fun d =>
    hkeep (keeps_takeFrame d)
  have hform : ∀ (d : Instr) (link : Link) {f : Prop} [Decidable f],
      (Host.Outcome.next (if f then takeFrame d s else malformedFrame link s) : Out) = .next t → s.Keeps t := by
    rintro d link f _ ⟨⟩
    split
    · exact keeps_takeFrame d
    · exact (serves_malformedFrame link).keeps
  cases c with
  | data i q payload => exact hform (.data i q payload) _ h
  | dataDown q slot payload => exact hform (.dataDown q slot payload) _ h
  | writePolicy q slot record => exact hform (.writePolicy q slot record) _ h
  | setConfig q item body => exact hform (.setConfig q item body) _ h
  | clearEvents q count kinds => exact hform (.clearEvents q count kinds) _ h
  | frameReceiveError link bytes => exact hkeep (keeps_receiveAll link bytes s) h
  | byteGapTimeout link => exact hkeep (serves_abandonFrame link).keeps h
  | offerDeadline i g => exact hkeep (serves_expireContract i g _ fun _ _ => serves_closeUnaccepted i g).keeps h
  | leaseExpiry i g => exact hkeep (serves_expireContract i g _ fun c _ => serves_closeExpired i g c).keeps h
  | waitDeadline i g => exact hkeep (serves_expireWait i g).keeps h
  | staleDeadline => exact hkeep serves_expireStale.keeps h
  | shedDeadline i g => exact hkeep (serves_expireContract i g _ fun _ _ => serves_cutAndFollow i _).keeps h
  | reportDeadline i g => exact hkeep (serves_expireContract i g _ fun _ _ => serves_takeSilence i g).keeps h
  | penaltyEndTime i => exact hkeep (keeps_endPenalty i) h
  | probeDeadline i => exact hkeep (keeps_expireProbe i) h
  | answerDeadline i => exact hkeep (keeps_expireAnswer i) h
  | retransmitDeadline => exact hkeep serves_expireRetransmit.keeps h
  | storeEraseCompletion => exact hkeep serves_completeErase.keeps h
  | storeSaveCompletion asWritten => exact hkeep (serves_completeSave asWritten).keeps h
  | storeLoadCompletion => exact hkeep serves_completeLoad.keeps h
  | slotTransmissionBegin i => exact hkeep (serves_beginSlot i).keeps h
  | slotTransmissionSent i =>
    exact hkeep (serves_onPort_same (f := fun p => { p with transmission := none }) i).keeps h
  | upstreamTransmissionBegin => exact hkeep serves_beginUpstream.keeps h
  | upstreamTransmissionSent => exact hkeep serves_endUpstream.keeps h
  | restartTakesEffect straps asWritten =>
    cases h
    split
    · exact keeps_restarted straps asWritten
    · exact .refl s
  | hardReset straps asWritten => exact hkeep (keeps_restarted straps asWritten) h
  | startUpScanEnd => exact hkeep (keeps_endScan hclean) h
  | claim i g want least => exact hframe (.claim i g want least) h
  | accept i g => exact hframe (.accept i g) h
  | decline i g => exact hframe (.decline i g) h
  | release i g => exact hframe (.release i g) h
  | adjust i g amount => exact hframe (.adjust i g amount) h
  | renew i g => exact hframe (.renew i g) h
  | report i g measured => exact hframe (.report i g measured) h
  | comply i g => exact hframe (.comply i g) h
  | present i cls peak => exact hframe (.present i cls peak) h
  | budget q amount urgency => exact hframe (.budget q amount urgency) h
  | noticeAck q => exact hframe (.noticeAck q) h
  | queryStatus q => exact hframe (.queryStatus q) h
  | readEntry q table index => exact hframe (.readEntry q table index) h
  | discard q => exact hframe (.discard q) h
  | commit q => exact hframe (.commit q) h
  | forceShed q slot g target => exact hframe (.forceShed q slot g target) h
  | forceClose q slot g => exact hframe (.forceClose q slot g) h
  | forceCut q slot => exact hframe (.forceCut q slot) h
  | portReset q slot => exact hframe (.portReset q slot) h
  | storeErase q page => exact hframe (.storeErase q page) h
  | storeSave q page => exact hframe (.storeSave q page) h
  | storeLoad q page => exact hframe (.storeLoad q page) h
  | restart q => exact hframe (.restart q) h

/-- Every step keeps the laws of every slot. -/
theorem keeps_step (hclean : s.StartsClean) (h : step s = .next t) : s.Keeps t := by
  unfold step at h
  split at h
  · cases h
    exact (serves_same (t := tick s)).keeps
  · next c rest _ =>
    exact (serves_same (t := { s with pending := rest })).keeps.trans
      (keeps_exec (s := { s with pending := rest }) hclean c h)

/-- Settles O7: slot by slot, by what each command does to the slot. -/
theorem grantsStayWithPresentSlots : Obligations.GrantsStayWithPresentSlots := by
  intro s t hclean hs hstep
  exact presenceHolds_iff.2 fun i => (keeps_step hclean hstep).present i (presenceHolds_iff.1 hs i)

/-- Settles O12: slot by slot, by what each command does to the slot. -/
theorem slotsStayShaped : Obligations.SlotsStayShaped := by
  intro s t hclean hs hstep
  exact slotsShaped_iff.2 fun i => (keeps_step hclean hstep).shaped i (slotsShaped_iff.1 hs i)

end Sys2Proof.Machine

/-!
# The policy records and the configuration

The records, the items and the images stay valid: every command but WRITE_POLICY, DISCARD, COMMIT, SET_CONFIG, the
store's commands and completions, a reset and the scan's end leaves the Policy Tables and the Profile Store as they are
(`State.tables`), and each of these keeps them valid by its own checks. Before that come the bytes of a policy record,
and what WRITE_POLICY and DISCARD do.
-/

namespace Sys2Proof.Machine

-- The theorems are checked one after another: side by side, each would hold a thread of its own while it waits.
set_option Elab.async false

open Config

variable {s t u : State}

/-! ## The bytes of a policy record (R113, R114) -/

theorem toNat_byteOf {n : Nat} (h : n ≤ 255) : (byteOf n).toNat = n := by
  simp only [byteOf, BitVec.toNat_ofNat]
  omega

/-- 12 "The frame": a figure of two bytes is read back from them. -/
theorem figure2_byteOf {n : Nat} (h : n ≤ maxCount) : figure2 (byteOf (n / 256)) (byteOf n) = n := by
  have hmax : n ≤ 65535 := h
  simp only [figure2, byteOf, BitVec.toNat_ofNat]
  omega

theorem boolOfCode?_code (b : Bool) : boolOfCode? (byteOf (boolCode b)).toNat = some b := by cases b <;> rfl

theorem SlotClass.ofCode?_code (c : SlotClass) : SlotClass.ofCode? (byteOf c.code).toNat = some c := by cases c <;> rfl

theorem ViolationAction.ofCode?_code (a : ViolationAction) :
    ViolationAction.ofCode? (byteOf a.code).toNat = some a := by
  cases a <;> rfl

/-- Every figure of the record fits in the bytes that the record's layout gives it (12 "The policy record"). -/
structure Policy.Fits (p : Policy) : Prop where
  shedRank : p.shedRank ≤ 255
  ceiling : p.ceiling ≤ maxCount
  floor : p.floor ≤ maxCount
  step : p.step ≤ maxCount
  maxContracts : p.maxContracts ≤ 255
  lease : p.lease ≤ maxCount
  waitLimit : p.waitLimit ≤ maxCount
  shedWindow : p.shedWindow ≤ maxCount
  reportInterval : p.reportInterval ≤ maxCount
  tolerance : p.tolerance ≤ 255
  debounce : p.debounce ≤ 255
  penaltyHold : p.penaltyHold ≤ maxCount

theorem Policy.fits_of_valid {p : Policy} (h : p.valid = true) : p.Fits := by
  have hmax : maxCount = 65535 := rfl
  simp only [Policy.valid, Bool.and_eq_true, Bool.or_eq_true, decide_eq_true_eq, beq_iff_eq] at h
  constructor <;> omega

/-- R114: the bytes of a record whose figures fit are read back as the record, where it is valid. -/
theorem Policy.ofBytes?_bytes {p : Policy} (h : p.Fits) :
    Policy.ofBytes? p.bytes = if p.valid = true then some p else none := by
  simp only [Policy.bytes, bytes2, List.cons_append, List.nil_append, Policy.ofBytes?, boolOfCode?_code,
    SlotClass.ofCode?_code, ViolationAction.ofCode?_code, toNat_byteOf h.shedRank, toNat_byteOf h.maxContracts,
    toNat_byteOf h.tolerance, toNat_byteOf h.debounce, figure2_byteOf h.ceiling, figure2_byteOf h.floor,
    figure2_byteOf h.step, figure2_byteOf h.lease, figure2_byteOf h.waitLimit, figure2_byteOf h.shedWindow,
    figure2_byteOf h.reportInterval, figure2_byteOf h.penaltyHold]
  rfl

/-- Settles O14: each field is read back from its bytes, because the ranges of R113 fit in them. -/
theorem policyRecordRoundTrip : Obligations.PolicyRecordRoundTrip := fun _ hvalid =>
  ⟨rfl, (Policy.ofBytes?_bytes (Policy.fits_of_valid hvalid)).trans (if_pos hvalid)⟩

/-! ## WRITE_POLICY and DISCARD (R114, R115) -/

section WritePolicy

variable {slot : Byte} {record : List Byte} {i : Slot} {p : Policy}

theorem runWritePolicy_badSlot (h : slotOf? slot = none) : runWritePolicy slot record s = naked .badSlot s := by
  simp only [runWritePolicy, h]

theorem runWritePolicy_badValue (h : slotOf? slot = some i) (hr : Policy.ofBytes? record = none) :
    runWritePolicy slot record s = naked .badValue s := by
  simp only [runWritePolicy, h, hr]

theorem runWritePolicy_record (h : slotOf? slot = some i) (hr : Policy.ofBytes? record = some p) :
    runWritePolicy slot record s = acked { s with pol.shadow := s.pol.shadow.set i p, pol.dirty := true } := by
  simp only [runWritePolicy, h, hr]

/-- An executed WRITE_POLICY of a length that a frame can carry. -/
theorem exec_writePolicy {q : Byte} {outcome : Settle} (h : s.executes q) (hlength : record.length = 26)
    (hrun : runWritePolicy slot record s.onSupply = (u, outcome)) :
    exec (.writePolicy q slot record) s = .next (u.settled q outcome) := by
  have hexec : exec (.writePolicy q slot record) s = .next (if record.length = 26 then
    takeCommand q (runWritePolicy slot record) s else malformedFrame .supply s) := rfl
  rw [hexec, if_pos hlength, takeCommand_settled h hrun]

end WritePolicy

/-- Settles O44: DISCARD by its one effect, WRITE_POLICY by its checks in order. -/
theorem shadowCopyIsWritten : Obligations.ShadowCopyIsWritten := by
  intro s q slot record hx u wrote
  refine ⟨congrArg _ (takeCommand_settled hx rfl), fun hlength => ?_⟩
  split
  · next hslot =>
    have hi := slotOf?_of_lt hslot
    exact ⟨fun p hp => exec_writePolicy hx hlength (runWritePolicy_record hi hp),
      fun hnone => exec_writePolicy hx hlength (runWritePolicy_badValue hi hnone)⟩
  · next hslot => exact exec_writePolicy hx hlength (runWritePolicy_badSlot (slotOf?_of_not_lt hslot))

/-! ## What the power frames leave alone -/

theorem kept_adm (adm : Admission) : s.Kept { s with adm := adm } := by constructor <;> rfl
theorem kept_eng (eng : ShedEngine) : s.Kept { s with eng := eng } := by constructor <;> rfl

theorem kept_withAdm (i : Slot) (g : Byte) (f : Contract → Contract) (committed : Nat) :
    s.Kept { s.onContract i g f with adm.committed := committed } :=
  (kept_onContract i g f).trans (kept_adm _)

theorem kept_comply (i : Slot) (g : Byte) (c : Contract) (amount : Nat) : s.Kept (s.comply i g c amount) :=
  ((kept_withAdm i g (Contract.complied amount) _).trans kept_evalFlags).trans (kept_eng _)

theorem kept_placeClaim (i : Slot) (g : Byte) (want least : Nat) : s.Kept (s.placeClaim i g want least) := by
  rw [placeClaim_placed]
  exact .trans (kept_adm _) (kept_reply i _)

theorem kept_queueClaim (i : Slot) (g : Byte) (want least : Nat) : s.Kept (s.queueClaim i g want least) := by
  unfold State.queueClaim
  split
  · exact kept_placeClaim i g want least
  · split
    · exact kept_refuse i g _
    · split
      · exact (((kept_leaveQueue _ _).trans (kept_refuse _ _ _)).trans (kept_placeClaim i g want least)).trans
          kept_runPass
      · exact kept_refuse i g _

theorem kept_takeClaim (i : Slot) (g : Byte) (want least : Nat) : s.Kept (takeClaim i g want least s) := by
  unfold takeClaim
  split
  · exact kept_refuse i g _
  · dsimp only
    split
    · exact kept_createOffer i g _
    · exact kept_queueClaim i g _ _

theorem kept_takeAccept (i : Slot) (g : Byte) : s.Kept (takeAccept i g s) := by
  unfold takeAccept
  split
  · exact kept_refuse i g _
  · split
    · exact ((kept_onContract i g _).trans (kept_evalEnable i)).trans (kept_reply i _)
    · exact kept_refuse i g _

theorem kept_takeDecline (i : Slot) (g : Byte) : s.Kept (takeDecline i g s) := by
  unfold takeDecline
  split
  · exact kept_refuse i g _
  · split
    · exact ((kept_closeContract i g).trans (kept_reply i _)).trans kept_runPass
    · exact kept_refuse i g _

theorem kept_takeRelease (i : Slot) (g : Byte) : s.Kept (takeRelease i g s) := by
  unfold takeRelease
  split
  · exact ((kept_closeContract i g).trans (kept_reply i _)).trans (kept_afterClose _)
  · split
    · exact ((kept_leaveQueue i g).trans (kept_reply i _)).trans kept_runPass
    · exact kept_refuse i g _

theorem kept_adjustHeld (i : Slot) (g : Byte) (c : Contract) (amount : Nat) : s.Kept (adjustHeld i g c amount s) := by
  unfold adjustHeld
  split
  · exact kept_refuse i g _
  · split
    · exact kept_reply i _
    · split
      · exact (((kept_withAdm i g _ _).trans kept_evalFlags).trans (kept_reply i _)).trans kept_runPass
      · split
        · exact kept_refuse i g _
        · exact ((kept_withAdm i g _ _).trans kept_evalFlags).trans (kept_reply i _)

theorem kept_takeAdjust (i : Slot) (g : Byte) (asked : Nat) : s.Kept (takeAdjust i g asked s) := by
  unfold takeAdjust
  split
  · exact kept_refuse i g _
  · dsimp only
    split
    · exact kept_refuse i g _
    · split
      · exact kept_refuse i g _
      · exact kept_adjustHeld i g _ _
    · split
      · exact kept_refuse i g _
      · split
        · exact ((kept_comply i g _ _).trans (kept_reply i _)).trans (kept_afterClose true)
        · exact kept_refuse i g _

theorem kept_takeRenew (i : Slot) (g : Byte) : s.Kept (takeRenew i g s) := by
  unfold takeRenew
  split
  · exact kept_refuse i g _
  · split
    · exact (kept_onContract i g _).trans (kept_reply i _)
    · exact kept_refuse i g _

theorem kept_violate (i : Slot) (reason : CutReason) (detail : Nat) : s.Kept (violate i reason detail s) := by
  unfold violate
  dsimp only
  split
  · exact kept_raise _ _ _
  · exact (kept_raise _ _ _).trans (kept_cutAndFollow i reason)

theorem kept_judgeReport (i : Slot) (g : Byte) (measured : Nat) : s.Kept (judgeReport i g measured s) := by
  unfold judgeReport
  split
  · exact .refl s
  · dsimp only
    split
    · exact kept_onContract i g _
    · split
      · exact kept_onContract i g _
      · exact (kept_onContract i g _).trans (kept_violate i _ _)

theorem kept_takeReport (i : Slot) (g : Byte) (measured : Nat) : s.Kept (takeReport i g measured s) := by
  unfold takeReport
  split
  · exact kept_onPort i _
  · split
    · exact kept_onPort i _
    · exact kept_judgeReport i g measured
    · split
      · exact ((kept_comply i g _ _).trans (kept_afterClose true)).trans (kept_judgeReport i g measured)
      · exact kept_judgeReport i g measured

theorem kept_takeComply (i : Slot) (g : Byte) : s.Kept (takeComply i g s) := by
  unfold takeComply
  split
  · exact kept_refuse i g _
  · split
    · exact ((kept_comply i g _ _).trans (kept_reply i _)).trans (kept_afterClose true)
    · exact kept_refuse i g _
    · exact kept_refuse i g _

theorem kept_takeSilence (i : Slot) (g : Byte) : s.Kept (takeSilence i g s) := by
  unfold takeSilence
  split
  · exact (kept_onContract i g _).trans (kept_violate i _ _)
  · exact kept_violate i _ _

theorem kept_closeUnaccepted (i : Slot) (g : Byte) : s.Kept (closeUnaccepted i g s) :=
  ((kept_closeContract i g).trans (kept_order i _)).trans kept_runPass

theorem kept_closeExpired (i : Slot) (g : Byte) (c : Contract) : s.Kept (closeExpired i g c s) :=
  ((kept_closeContract i g).trans (kept_order i _)).trans (kept_afterClose _)

theorem kept_requestOnChange (before : Nat) (urgency : Urgency) : s.Kept (requestOnChange before urgency s) := by
  unfold requestOnChange
  split
  · exact kept_budgetRound urgency
  · split
    · exact kept_runPass
    · exact .refl s

theorem kept_requestOnConfig (before : Nat) : s.Kept (requestOnConfig before s) := by
  unfold requestOnConfig
  split
  · exact kept_runPass.trans (kept_budgetRound .normal)
  · exact kept_budgetRound .normal

/-! ## What the slots leave alone -/

theorem kept_disable (i : Slot) : s.Kept (s.disable i) := (kept_onPort i _).trans (kept_evalEnable i)

theorem kept_enterKnown (i : Slot) (x : SlotState) (k : EventKind) : s.Kept (s.enterKnown i x k) :=
  ((kept_onPort i _).trans (kept_evalEnable i)).trans (kept_raise k _ _)

theorem kept_enterVacant (i : Slot) (probe : Option Time) : s.Kept (s.enterVacant i probe) :=
  (kept_onPort i _).trans (kept_evalEnable i)

theorem kept_join (i : Slot) : s.Kept (s.join i) := by
  unfold State.join
  dsimp only
  split
  · exact (kept_onPort i _).trans (kept_enterKnown i _ _)
  · exact (kept_onPort i _).trans (kept_enterKnown i _ _)

theorem kept_lose (i : Slot) : s.Kept (s.lose i) := by
  have htorn : s.Kept (tearAndFollow i (s.deassert i)) := (kept_onPort i _).trans (kept_tearAndFollow i)
  have hemptied := htorn.trans (kept_onPort i fun p => { p with orders := [], replies := [], downstream := [] })
  exact (hemptied.trans (kept_enterVacant i _)).trans (kept_raise _ _ _)

theorem kept_closeWindow (i : Slot) : s.Kept (closeWindow i s) := by
  unfold closeWindow
  split
  · exact kept_onPort i _
  · exact kept_onPort i _
  · exact kept_enterVacant i _
  all_goals
    dsimp only
    split
    · exact (kept_onPort i _).trans (kept_lose i)
    · exact kept_onPort i _

theorem kept_resetPort (i : Slot) : s.Kept (s.resetPort i) := by
  have htorn : s.Kept (tearAndFollow i (s.deassert i)) := (kept_onPort i _).trans (kept_tearAndFollow i)
  have hemptied := htorn.trans (kept_onPort i fun p => { p with orders := [], replies := [], downstream := [] })
  have hcleared := hemptied.trans (kept_onPort i SlotPort.restart)
  unfold State.resetPort
  dsimp only
  split
  · exact hcleared.trans (kept_enterVacant i _)
  · exact hcleared

/-! ## The Policy Tables and the Profile Store (R112, R156) -/

/-- What the law of valid tables speaks of. -/
def State.tables (s : State) : PolicyTables × ProfileStore := (s.pol, s.store)

theorem State.Kept.tables (h : s.Kept t) : t.tables = s.tables := Prod.ext h.pol h.store

/-! ### The links and the other frames -/

theorem tables_setReceiver (link : Link) (r : Receiver) : (s.setReceiver link r).tables = s.tables := by
  cases link <;> rfl

theorem tables_linkError (link : Link) (e : LinkError) : (s.linkError link e).tables = s.tables := by
  cases link <;> cases e <;> rfl

theorem tables_malformedFrame (link : Link) : (malformedFrame link s).tables = s.tables := by
  unfold malformedFrame
  split
  · exact (tables_linkError link _).trans (tables_setReceiver link _)
  · rfl

theorem tables_abandonFrame (link : Link) : (abandonFrame link s).tables = s.tables := by
  unfold abandonFrame
  split
  · split
    · rfl
    · exact (tables_linkError link _).trans (tables_setReceiver link _)
  · rfl

theorem tables_moduleFrame (i : Slot) {handle : State → State} (h : ∀ u : State, (handle u).tables = u.tables) :
    (moduleFrame i handle s).tables = s.tables := by
  unfold moduleFrame
  split
  · dsimp only
    split
    · rfl
    · rfl
    all_goals exact h _
  · rfl

theorem tables_supplyFrame {handle : State → State} (h : ∀ u : State, (handle u).tables = u.tables) :
    (supplyFrame handle s).tables = s.tables := by
  unfold supplyFrame
  split
  · exact h _
  · rfl

theorem tables_takeData (i : Slot) (q : Byte) (payload : List Byte) :
    (takeData i q payload s).tables = s.tables := by
  unfold takeData
  split <;> rfl

theorem tables_takeDataDown (q slot : Byte) (payload : List Byte) :
    (takeDataDown q slot payload s).tables = s.tables := by
  unfold takeDataDown
  split
  · rfl
  · split <;> rfl

theorem tables_recompute : (recompute s).tables = s.tables := kept_evalFlags.tables

theorem tables_announce (q : Byte) (amount : Nat) : (s.announce q amount).tables = s.tables := by
  unfold State.announce
  dsimp only
  split <;> rfl

theorem tables_takeBudget (q : Byte) (amount : Nat) (urgency : Urgency) :
    (takeBudget q amount urgency s).tables = s.tables := by
  unfold takeBudget
  split
  · have hasked := ((kept_requestOnChange s.bud.limit urgency).tables.trans tables_recompute).trans
      (tables_announce (s := s) q amount)
    unfold immediateIfOver
    split
    · exact (kept_budgetRound .immediate).tables.trans hasked
    · exact hasked
  · rfl

/-! ### The slots -/

theorem tables_takePresent (i : Slot) (d : Declared) : (takePresent i d s).tables = s.tables := by
  unfold takePresent
  split
  · dsimp only
    split
    · rfl
    · split <;> rfl
    · split
      · exact (kept_join i).tables
      · rfl
    · rfl
    · rfl
    · split <;> rfl
  · rfl

theorem tables_expireProbe (i : Slot) : (expireProbe i s).tables = s.tables := by
  unfold expireProbe
  split
  · rfl
  · split <;> rfl

theorem tables_expireAnswer (i : Slot) : (expireAnswer i s).tables = s.tables := by
  unfold expireAnswer
  split
  · rfl
  · split
    · exact (kept_closeWindow i).tables
    · rfl

theorem tables_endPenalty (i : Slot) : (endPenalty i s).tables = s.tables := by
  unfold endPenalty
  split
  · rfl
  · split
    · dsimp only
      split <;> rfl
    · rfl

/-! ### Expiries and the transmitters -/

theorem tables_expireContract (i : Slot) (g : Byte) (deadline? : Contract → Option Time)
    {act : Contract → State → State} (h : ∀ c (u : State), (act c u).tables = u.tables) :
    (expireContract i g deadline? act s).tables = s.tables := by
  unfold expireContract
  split
  · rfl
  · split
    · rfl
    · split
      · exact h _ _
      · rfl

theorem tables_expireWait (i : Slot) (g : Byte) : (expireWait i g s).tables = s.tables := by
  unfold expireWait
  split
  · rfl
  · split
    · rfl
    · split
      · exact kept_runPass.tables
      · rfl

theorem tables_expireStale : (expireStale s).tables = s.tables := by
  unfold expireStale
  split
  · rfl
  · split
    · exact (kept_requestOnChange _ _).tables.trans tables_recompute
    · rfl

theorem tables_expireRetransmit : (expireRetransmit s).tables = s.tables := by
  unfold expireRetransmit
  split
  · rfl
  · split
    · rfl
    · split <;> rfl

theorem tables_beginSlot (i : Slot) : (beginSlot i s).tables = s.tables := by
  unfold beginSlot
  split
  · split <;> rfl
  · rfl

theorem tables_beginUpstream : (beginUpstream s).tables = s.tables := by
  unfold beginUpstream
  (repeat' split) <;> rfl

theorem tables_endUpstream : (endUpstream s).tables = s.tables := by
  unfold endUpstream
  (repeat' split) <;> rfl

/-! ### A commit's checks (R118, R119, R40, R41) -/

theorem kept_foldl {α : Type} {f : State → α → State} (h : ∀ (u : State) (a : α), u.Kept (f u a)) (l : List α) :
    ∀ s : State, s.Kept (l.foldl f s) := by
  induction l with
  | nil => exact fun s => .refl s
  | cons a r ih => exact fun s => (h s a).trans (ih _)

theorem kept_closeForPolicy (i : Slot) : s.Kept (s.closeForPolicy i) := by
  have htold := kept_foldl (f := fun s c => s.order i (.closed c.tag .policy)) (fun _ _ => kept_order i _)
    (s.contractsOf i) s
  have hrefused := kept_foldl (f := fun s (e : QueueEntry) => (s.leaveQueue i e.tag).refuse i e.tag .policy)
    (fun _ e => (kept_leaveQueue i e.tag).trans (kept_refuse i e.tag _)) (s.claimsOf i)
  exact (htold.trans (hrefused _)).trans (kept_removeSlot i)

theorem kept_alignSlot (old : Policy) (i : Slot) : s.Kept (alignSlot old i s) := by
  unfold alignSlot
  dsimp only
  split
  · exact .refl s
  · split
    · exact (kept_closeForPolicy i).trans (kept_disable i)
    · exact kept_disable i
    · exact kept_enterVacant i _
    · split
      · exact .refl s
      · exact (kept_closeForPolicy i).trans (kept_enterKnown i _ _)
    · split
      · exact kept_enterKnown i _ _
      · exact .refl s
    · exact .refl s

theorem kept_checkCeiling (c : Contract) : s.Kept (checkCeiling c s) := by
  unfold checkCeiling
  split
  · split
    · exact (kept_removeContract _ _).trans (kept_order _ _)
    · exact kept_issueShed _ _ _ _
    · exact .refl s
  · exact .refl s

theorem kept_checkEntry (e : QueueEntry) : s.Kept (checkEntry e s) := by
  unfold checkEntry
  split
  · exact (kept_leaveQueue _ _).trans (kept_refuse _ _ _)
  · exact .refl s

theorem kept_commitChecks (old : Vector Policy 8) : s.Kept (commitChecks old s) :=
  ((kept_foldl (fun _ i => kept_alignSlot (old.get i) i) allSlots s).trans
    (kept_foldl (fun _ c => kept_checkCeiling c) _ _)).trans (kept_foldl (fun _ e => kept_checkEntry e) _ _)

/-- R117: a commit changes the tables by its swap alone. -/
theorem kept_commitStages : s.swapped.Kept (commitStages s) := by
  rw [commitStages_eq]
  exact ((((kept_commitChecks s.pol.active).trans (kept_adm _)).trans kept_evalFlags).trans kept_runPass).trans
    (kept_budgetRound .normal)

/-! ## The tables stay valid (R113, R116, R122) -/

theorem State.TablesValid.of_tables (h : s.TablesValid) (ht : t.tables = s.tables) : t.TablesValid := by
  have hpol : t.pol = s.pol := congrArg Prod.fst ht
  have hstore : t.store = s.store := congrArg Prod.snd ht
  unfold State.TablesValid State.page
  rw [hpol, hstore]
  exact h

/-- A change of the records and the items. -/
theorem State.TablesValid.of_policy (h : s.TablesValid) (hactive : ∀ i, (t.pol.active.get i).valid = true)
    (hshadow : ∀ i, (t.pol.shadow.get i).valid = true) (hitems : t.pol.items.valid = true)
    (hpages : t.store.pages = s.store.pages := by rfl) (hop : t.store.op = s.store.op := by rfl) : t.TablesValid := by
  obtain ⟨-, -, -, hsound, hopsound⟩ := h
  refine ⟨hactive, hshadow, hitems, ?_, hop ▸ hopsound⟩
  unfold State.page
  rw [hpages]
  exact hsound

/-- A change of the pages and of the operation in progress. -/
theorem State.TablesValid.of_store (h : s.TablesValid) (hpages : ∀ p, (t.page p).sound = true)
    (hop : ∀ op ∈ t.store.op, op.sound = true) (hpol : t.pol = s.pol := by rfl) : t.TablesValid := by
  obtain ⟨hactive, hshadow, hitems, -, -⟩ := h
  refine ⟨?_, ?_, ?_, hpages, hop⟩ <;> rw [hpol]
  · exact hactive
  · exact hshadow
  · exact hitems

/-! ### Images -/

theorem sound_iff {img : Image} : img.sound = true ↔
    (∀ i, (img.policies.get i).valid = true) ∧ img.items.valid = true ∧ img.generation ≤ maxGeneration := by
  have hpolicies : img.policies.toList.all Policy.valid = true ↔ ∀ i, (img.policies.get i).valid = true := by
    simp only [List.all_eq_true, Vector.mem_toList_iff, Vector.mem_iff_getElem]
    constructor
    · exact fun h i => h _ ⟨i.val, i.isLt, rfl⟩
    · rintro h _ ⟨n, hn, rfl⟩
      exact h ⟨n, hn⟩
  simp only [Image.sound, Bool.and_eq_true, hpolicies, decide_eq_true_eq, and_assoc]

theorem sound_of_page (h : s.TablesValid) {p : Slot} {img : Image} (hp : s.page p = .valid img) : img.sound = true := by
  obtain ⟨-, -, -, hpages, -⟩ := h
  have hsound := hpages p
  rwa [hp] at hsound

/-- R160: while a greater generation exists, the next one is a generation of 32 bits. -/
theorem nextGeneration_le (h : s.TablesValid) (hfree : greatestGeneration s.store.pages ≠ some maxGeneration) :
    nextGeneration s.store.pages ≤ maxGeneration := by
  unfold nextGeneration
  cases hg : greatestGeneration s.store.pages with
  | none => exact (by decide : 1 ≤ maxGeneration)
  | some g =>
    obtain ⟨hmem, -⟩ := List.max?_eq_some_iff.1 hg
    obtain ⟨p, hp⟩ := mem_generations.1 hmem
    have hle : g ≤ maxGeneration := by
      cases hpage : s.store.pages.get p with
      | valid img =>
        rw [hpage] at hp
        obtain rfl : img.generation = g := Option.some.inj hp
        obtain ⟨-, -, hgeneration⟩ := sound_iff.1 (sound_of_page h hpage)
        exact hgeneration
      | _ => simp [hpage, Page.generation?] at hp
    have hne : g ≠ maxGeneration := fun he => hfree (he ▸ hg)
    show g + 1 ≤ maxGeneration
    omega

/-- R160: a captured image holds what is in force, and so only valid records and items. -/
theorem sound_capture (h : s.TablesValid) (hfree : greatestGeneration s.store.pages ≠ some maxGeneration) :
    s.capture.sound = true := by
  have hgeneration := nextGeneration_le h hfree
  obtain ⟨hactive, -, hitems, -, -⟩ := h
  exact sound_iff.2 ⟨hactive, hitems, hgeneration⟩

theorem sound_scan {page : Page} (asWritten : Bool) (h : page.sound = true) : (page.scan asWritten).sound = true := by
  unfold Page.scan
  split
  · split
    · exact h
    · rfl
  · exact h
  · exact h

/-! ### The Policy Tables' commands -/

theorem tablesValid_runWritePolicy (h : s.TablesValid) (slot : Byte) (record : List Byte) :
    (runWritePolicy slot record s).1.TablesValid := by
  unfold runWritePolicy naked acked
  split
  · exact h
  · next i _ =>
    split
    · exact h
    · next p hp =>
      have ⟨hactive, hshadow, hitems, _, _⟩ := h
      refine h.of_policy hactive (fun j => ?_) hitems
      by_cases hj : j = i
      · subst hj
        simpa using valid_of_ofBytes? hp
      · simpa [get_set_other _ _ hj] using hshadow j

theorem tablesValid_runDiscard (h : s.TablesValid) : (runDiscard s).1.TablesValid := by
  have ⟨hactive, _, hitems, _, _⟩ := h
  exact h.of_policy hactive hactive hitems

theorem tablesValid_runCommit (h : s.TablesValid) : (runCommit s).1.TablesValid := by
  unfold runCommit acked
  split
  · have ⟨_, hshadow, hitems, _, _⟩ := h
    have hswapped : s.swapped.TablesValid := h.of_policy hshadow hshadow hitems
    dsimp only
    exact hswapped.of_tables kept_commitStages.tables
  · exact h

/-- R122: an item in its range that leaves HIGH_MARK above LOW_MARK leaves the items valid. -/
theorem valid_put {items : LiveItems} {it : ConfigItem} {v : Nat} (h : items.valid = true)
    (hrange : it.inRange v = true) (hmarks : it.marksOk items v = true) : (items.put it v).valid = true := by
  simp only [LiveItems.valid, Bool.and_eq_true] at h ⊢
  cases it with
  | highMark => simp_all [LiveItems.put, ConfigItem.marksOk]
  | lowMark => simp_all [LiveItems.put, ConfigItem.marksOk]
  | eventMask => exact h
  | _ => simp_all [LiveItems.put]

/-- R123: the checks of a configuration change keep the items valid. -/
theorem valid_of_configChange {items items' : LiveItems} {item : Byte} {body : List Byte} {it : ConfigItem}
    (h : items.valid = true) (hok : configChange items item body = .ok (it, items')) : items'.valid = true := by
  unfold configChange at hok
  split at hok
  · simp at hok
  · split at hok
    · simp at hok
    · split at hok
      · simp at hok
      · split at hok
        · simp at hok
        · cases hok
          exact h
  · split at hok
    · simp at hok
    · next hrange =>
      split at hok
      · simp at hok
      · next hmarks =>
        cases hok
        exact valid_put h (by simpa using hrange) (by simpa using hmarks)

theorem tables_configEffect (it : ConfigItem) : (configEffect it s).tables = s.tables := by
  have hfigures := (kept_requestOnConfig s.bud.limit).tables.trans (tables_recompute (s := s))
  have hmarks : (newMarks s).tables = s.tables := kept_evalWatermark.tables
  cases it with
  | budgetCap => exact hfigures
  | safeBudget => exact hfigures
  | reserve => exact hfigures
  | highMark => exact hmarks
  | lowMark => exact hmarks
  | _ => rfl

theorem tablesValid_runSetConfig (h : s.TablesValid) (item : Byte) (body : List Byte) :
    (runSetConfig item body s).1.TablesValid := by
  unfold runSetConfig naked acked
  split
  · exact h
  · next it items hok =>
    have ⟨hactive, hshadow, hitems, _, _⟩ := h
    have hput : ({ s with pol.items := items } : State).TablesValid :=
      h.of_policy hactive hshadow (valid_of_configChange hitems hok)
    exact hput.of_tables (tables_configEffect it)

/-! ### The Profile Store's commands and completions -/

/-- An operation that starts. -/
theorem tablesValid_start (h : s.TablesValid) {op : StoreOp} (hop : op.sound = true) : (s.start op).TablesValid := by
  have ⟨_, _, _, hpages, _⟩ := h
  refine h.of_store hpages fun op' hop' => ?_
  obtain rfl : op = op' := Option.some.inj hop'
  exact hop

theorem tablesValid_ownErase (h : s.TablesValid) (p : Slot) : (ownErase p s).1.TablesValid := by
  unfold ownErase naked acked
  split
  · exact h
  · exact tablesValid_start h rfl

theorem tablesValid_ownSave (h : s.TablesValid) (p : Slot) : (ownSave p s).1.TablesValid := by
  unfold ownSave naked acked
  split
  · exact h
  · split
    · exact h
    · split
      · exact h
      · next hfree => exact tablesValid_start h (sound_capture h hfree)

theorem tablesValid_ownLoad (h : s.TablesValid) (p : Slot) : (ownLoad p s).1.TablesValid := by
  unfold ownLoad naked acked
  split
  · exact tablesValid_start h rfl
  · exact h
  · exact h

theorem tablesValid_storeCommand (h : s.TablesValid) (page : Byte) {own : Slot → State → State × Settle}
    (hown : ∀ p, (own p s).1.TablesValid) : (storeCommand page own s).1.TablesValid := by
  unfold storeCommand naked
  split
  · exact h
  · split
    · exact h
    · exact hown _

/-- R159, R161: the end of an operation on a page, the page in its new state. -/
theorem tablesValid_complete (h : s.TablesValid) (p : Slot) {page : Page} (k : EventKind) (hpage : page.sound = true) :
    (s.complete p page k).TablesValid := by
  have ⟨_, _, _, hpages, _⟩ := h
  refine h.of_store (fun r => ?_) fun op hop => nomatch hop
  show ((s.store.pages.set p.val page).get r).sound = true
  by_cases hr : r = p
  · subst hr
    rwa [get_set_self]
  · rw [get_set_other _ _ hr]
    exact hpages r

theorem tablesValid_completeErase (h : s.TablesValid) : (completeErase s).TablesValid := by
  unfold completeErase
  split
  · exact tablesValid_complete h _ _ rfl
  all_goals exact h

theorem tablesValid_completeSave (h : s.TablesValid) (asWritten : Bool) : (completeSave asWritten s).TablesValid := by
  unfold completeSave
  split
  · next p img hop =>
    have ⟨_, _, _, _, hopsound⟩ := h
    split
    · exact tablesValid_complete h p _ (hopsound _ hop)
    · exact tablesValid_complete h p _ rfl
  all_goals exact h

theorem tablesValid_loading (h : s.TablesValid) {p : Slot} {img : Image} (hp : s.page p = .valid img) :
    (s.loading img).TablesValid := by
  obtain ⟨hpolicies, hitems, -⟩ := sound_iff.1 (sound_of_page h hp)
  have ⟨hactive, _⟩ := h
  exact h.of_policy hactive hpolicies hitems

theorem tables_placeLoaded (img : Image) : (placeLoaded img s).tables = (s.loading img).tables :=
  (kept_requestOnConfig _).tables.trans (tables_recompute (s := s.loading img))

theorem tablesValid_completeLoad (h : s.TablesValid) : (completeLoad s).TablesValid := by
  have hend : ∀ (p : Slot) (u : State), u.TablesValid →
      (({ u with store.op := none } : State).raise .storeDone none p.val).TablesValid := by
    intro p u hu
    have ⟨_, _, _, hpages, _⟩ := hu
    exact hu.of_store hpages fun op hop => nomatch hop
  unfold completeLoad
  split
  · next p _ =>
    dsimp only
    split
    · next img hp => exact hend p _ ((tablesValid_loading h hp).of_tables (tables_placeLoaded img))
    · exact hend p s h
    · exact hend p s h
  all_goals exact h

/-! ### A reset and the scan's end -/

theorem valid_defaultPolicy (i : Slot) : ((Vector.replicate 8 defaultPolicy).get i).valid = true := by
  rw [get_replicate]
  decide

theorem valid_defaultItems : defaultItems.valid = true := by decide

theorem sound_interruptStore (h : s.TablesValid) (p : Slot) : ((interruptStore s.store).get p).sound = true := by
  obtain ⟨-, -, -, hpages, -⟩ := h
  have hdamaged : ∀ q : Slot, ((s.store.pages.set q.val .damaged).get p).sound = true := by
    intro q
    by_cases hp : p = q
    · subst hp
      rw [get_set_self]
      rfl
    · rw [get_set_other _ _ hp]
      exact hpages p
  unfold interruptStore
  split
  · exact hdamaged _
  · exact hdamaged _
  · exact hpages p
  · exact hpages p

/-- R163, R165: a reset puts the defaults in force, and reads each page as it is or as DAMAGED. -/
theorem tablesValid_restarted (h : s.TablesValid) (straps : BitVec 2) (asWritten : BitVec 8) :
    (s.restarted straps asWritten).TablesValid := by
  refine ⟨valid_defaultPolicy, valid_defaultPolicy, valid_defaultItems, fun p => ?_, fun op hop => nomatch hop⟩
  show ((scanPages asWritten (interruptStore s.store)).get p).sound = true
  rw [get_scanPages]
  exact sound_scan _ (sound_interruptStore h p)

theorem tablesValid_scanned (h : s.TablesValid) {records : Vector Policy 8} {items : LiveItems} (page : Option Slot)
    (hrecords : ∀ i, (records.get i).valid = true) (hitems : items.valid = true) :
    (s.scanned records items page).TablesValid := by
  obtain ⟨ports, hrest⟩ := scanned_rest s records items page
  rw [hrest]
  exact h.of_policy hrecords hrecords hitems

theorem tablesValid_endScan (h : s.TablesValid) : (endScan s).TablesValid := by
  by_cases hpart : s.part = .starting
  · cases hc : choosePage s.store.pages with
    | none =>
      rw [endScan_of_none hpart hc]
      exact tablesValid_scanned h _ valid_defaultPolicy valid_defaultItems
    | some choice =>
      rw [endScan_of_some hpart hc]
      obtain ⟨hpolicies, hitems, -⟩ := sound_iff.1 (sound_of_page h (choosePage_spec hc))
      exact tablesValid_scanned h _ hpolicies hitems
  · rw [endScan, if_neg hpart]
    exact h

/-! ### Every command -/

theorem tablesValid_supplyFrame (h : s.TablesValid) {handle : State → State}
    (hh : ∀ u : State, u.TablesValid → (handle u).TablesValid) : (supplyFrame handle s).TablesValid := by
  unfold supplyFrame
  split
  · exact hh _ (h.of_tables (tables_setReceiver .supply _))
  · exact h

theorem tablesValid_takeCommand (h : s.TablesValid) (q : Byte) {run : State → State × Settle}
    (hrun : ∀ u : State, u.TablesValid → (run u).1.TablesValid) : (takeCommand q run s).TablesValid := by
  refine tablesValid_supplyFrame h fun u hu => ?_
  split
  · exact hu
  · unfold answerCommand
    split
    · exact hu.of_tables rfl
    · exact (hrun u hu).of_tables rfl

/-- A management command that leaves the tables alone. -/
theorem tablesValid_takeOther (h : s.TablesValid) (q : Byte) {run : State → State × Settle}
    (hrun : ∀ u : State, (run u).1.tables = u.tables) : (takeCommand q run s).TablesValid :=
  tablesValid_takeCommand h q fun u hu => hu.of_tables (hrun u)

theorem tables_runReadEntry (table index : Byte) : (runReadEntry table index s).1.tables = s.tables := by
  unfold runReadEntry naked
  (repeat' split) <;> rfl

theorem tables_runClearEvents (count : Byte) (kinds : List Byte) : (runClearEvents count kinds s).1.tables = s.tables := by
  unfold runClearEvents naked acked
  split
  · rfl
  · split <;> rfl

theorem tables_runForceShed (slot g : Byte) (target : Nat) : (runForceShed slot g target s).1.tables = s.tables := by
  unfold runForceShed naked acked
  split
  · rfl
  · split
    · rfl
    · split
      · rfl
      · split
        · rfl
        · exact (kept_issueShed _ _ _ _).tables

theorem tables_runForceClose (slot g : Byte) : (runForceClose slot g s).1.tables = s.tables := by
  unfold runForceClose naked acked
  split
  · rfl
  · split
    · rfl
    · exact (((kept_closeContract _ _).trans (kept_order _ _)).trans (kept_afterClose _)).tables

theorem tables_runForceCut (slot : Byte) : (runForceCut slot s).1.tables = s.tables := by
  unfold runForceCut naked acked
  split
  · rfl
  · split
    · exact (kept_cutAndFollow _ _).tables
    · rfl

theorem tables_runPortReset (slot : Byte) : (runPortReset slot s).1.tables = s.tables := by
  unfold runPortReset naked acked
  split
  · rfl
  · exact (kept_resetPort _).tables

theorem tables_runRestart : (runRestart s).1.tables = s.tables := by
  unfold runRestart naked acked
  split <;> rfl

theorem tablesValid_takeFrame (h : s.TablesValid) (c : Instr) : (takeFrame c s).TablesValid := by
  have hmodule : ∀ (i : Slot) {handle : State → State}, (∀ u : State, u.Kept (handle u)) →
      (moduleFrame i handle s).TablesValid := fun i _ hk => h.of_tables (tables_moduleFrame i fun u => (hk u).tables)
  cases c with
  | claim i g want least => exact hmodule i fun _ => kept_takeClaim i g _ _
  | accept i g => exact hmodule i fun _ => kept_takeAccept i g
  | decline i g => exact hmodule i fun _ => kept_takeDecline i g
  | release i g => exact hmodule i fun _ => kept_takeRelease i g
  | adjust i g amount => exact hmodule i fun _ => kept_takeAdjust i g _
  | renew i g => exact hmodule i fun _ => kept_takeRenew i g
  | report i g measured => exact hmodule i fun _ => kept_takeReport i g _
  | comply i g => exact hmodule i fun _ => kept_takeComply i g
  | present i cls peak => exact h.of_tables (tables_takePresent i _)
  | data i q payload => exact h.of_tables (tables_moduleFrame i fun _ => tables_takeData i q payload)
  | budget q amount urgency => exact h.of_tables (tables_supplyFrame fun _ => tables_takeBudget q _ urgency)
  | noticeAck q => exact h.of_tables (tables_supplyFrame fun _ => rfl)
  | dataDown q slot payload => exact h.of_tables (tables_supplyFrame fun _ => tables_takeDataDown q slot payload)
  | queryStatus q => exact tablesValid_takeOther h q fun _ => rfl
  | readEntry q table index => exact tablesValid_takeOther h q fun _ => tables_runReadEntry table index
  | writePolicy q slot record =>
    exact tablesValid_takeCommand h q fun _ hu => tablesValid_runWritePolicy hu slot record
  | discard q => exact tablesValid_takeCommand h q fun _ hu => tablesValid_runDiscard hu
  | commit q => exact tablesValid_takeCommand h q fun _ hu => tablesValid_runCommit hu
  | setConfig q item body => exact tablesValid_takeCommand h q fun _ hu => tablesValid_runSetConfig hu item body
  | clearEvents q count kinds => exact tablesValid_takeOther h q fun _ => tables_runClearEvents count kinds
  | forceShed q slot g target => exact tablesValid_takeOther h q fun _ => tables_runForceShed slot g _
  | forceClose q slot g => exact tablesValid_takeOther h q fun _ => tables_runForceClose slot g
  | forceCut q slot => exact tablesValid_takeOther h q fun _ => tables_runForceCut slot
  | portReset q slot => exact tablesValid_takeOther h q fun _ => tables_runPortReset slot
  | storeErase q page =>
    exact tablesValid_takeCommand h q fun _ hu => tablesValid_storeCommand hu page (tablesValid_ownErase hu)
  | storeSave q page =>
    exact tablesValid_takeCommand h q fun _ hu => tablesValid_storeCommand hu page (tablesValid_ownSave hu)
  | storeLoad q page =>
    exact tablesValid_takeCommand h q fun _ hu => tablesValid_storeCommand hu page (tablesValid_ownLoad hu)
  | restart q => exact tablesValid_takeOther h q fun _ => tables_runRestart
  | _ => exact h

theorem tablesValid_receiveOn (h : s.TablesValid) (link : Link) (b : Byte) : (receiveOn link s b).TablesValid := by
  unfold receiveOn
  split
  · dsimp only
    generalize hr : s.setReceiver link _ = heard
    have hheard : heard.TablesValid := hr ▸ h.of_tables (tables_setReceiver link _)
    split
    · exact hheard
    · unfold takeVerdict
      split
      · exact tablesValid_takeFrame hheard _
      · exact hheard
      · exact hheard.of_tables (tables_linkError link _)
  · exact h

theorem tablesValid_receiveAll (link : Link) (bytes : List Byte) :
    ∀ s : State, s.TablesValid → (bytes.foldl (receiveOn link) s).TablesValid := by
  induction bytes with
  | nil => exact fun _ h => h
  | cons b r ih => exact fun s h => ih _ (tablesValid_receiveOn h link b)

/-- A command that a frame carries: its frame is taken, or has a payload that no frame of its kind may have (R178). -/
theorem exec_of_carrier {c : Instr} (hc : carrierOf c ≠ none) :
    exec c s = .next (takeFrame c s) ∨ ∃ link, exec c s = .next (malformedFrame link s) := by
  by_cases hw : c.wellFormed = true
  · exact .inl (exec_eq_takeFrame hc hw)
  · cases c with
    | data i q payload =>
      have hlong : ¬ payload.length ≤ 31 := by simpa [Instr.wellFormed] using hw
      exact .inr ⟨.slot i, congrArg _ (if_neg hlong)⟩
    | dataDown q slot payload =>
      have hlong : ¬ payload.length ≤ 31 := by simpa [Instr.wellFormed] using hw
      exact .inr ⟨.supply, congrArg _ (if_neg hlong)⟩
    | writePolicy q slot record =>
      have hlength : ¬ record.length = 26 := by simpa [Instr.wellFormed] using hw
      exact .inr ⟨.supply, congrArg _ (if_neg hlength)⟩
    | setConfig q item body => exact .inr ⟨.supply, congrArg _ (if_neg hw)⟩
    | clearEvents q count kinds =>
      have hlong : ¬ kinds.length ≤ 31 := by simpa [Instr.wellFormed] using hw
      exact .inr ⟨.supply, congrArg _ (if_neg hlong)⟩
    | frameReceiveError link bytes => exact absurd rfl hc
    | _ => exact absurd rfl hw

/-- Every command keeps the tables valid. -/
theorem tablesValid_exec (hs : s.TablesValid) (c : Instr) (h : exec c s = .next t) : t.TablesValid := by
  have hkeep : ∀ {u : State}, u.TablesValid → (Host.Outcome.next u : Out) = .next t → t.TablesValid := by
    rintro u hu ⟨⟩
    exact hu
  have hsame : ∀ {u : State}, u.tables = s.tables → (Host.Outcome.next u : Out) = .next t → t.TablesValid := fun hu =>
    hkeep (hs.of_tables hu)
  by_cases hc : carrierOf c = none
  case neg =>
    rcases exec_of_carrier (s := s) hc with hframe | ⟨link, hmalformed⟩
    · exact hkeep (tablesValid_takeFrame hs c) (hframe.symm.trans h)
    · exact hsame (tables_malformedFrame link) (hmalformed.symm.trans h)
  case pos =>
    cases c with
    | frameReceiveError link bytes => exact hkeep (tablesValid_receiveAll link bytes s hs) h
    | byteGapTimeout link => exact hsame (tables_abandonFrame link) h
    | offerDeadline i g =>
      exact hsame (tables_expireContract i g _ fun _ _ => (kept_closeUnaccepted i g).tables) h
    | leaseExpiry i g => exact hsame (tables_expireContract i g _ fun c _ => (kept_closeExpired i g c).tables) h
    | waitDeadline i g => exact hsame (tables_expireWait i g) h
    | staleDeadline => exact hsame tables_expireStale h
    | shedDeadline i g => exact hsame (tables_expireContract i g _ fun _ _ => (kept_cutAndFollow i _).tables) h
    | reportDeadline i g => exact hsame (tables_expireContract i g _ fun _ _ => (kept_takeSilence i g).tables) h
    | penaltyEndTime i => exact hsame (tables_endPenalty i) h
    | probeDeadline i => exact hsame (tables_expireProbe i) h
    | answerDeadline i => exact hsame (tables_expireAnswer i) h
    | retransmitDeadline => exact hsame tables_expireRetransmit h
    | storeEraseCompletion => exact hkeep (tablesValid_completeErase hs) h
    | storeSaveCompletion asWritten => exact hkeep (tablesValid_completeSave hs asWritten) h
    | storeLoadCompletion => exact hkeep (tablesValid_completeLoad hs) h
    | slotTransmissionBegin i => exact hsame (tables_beginSlot i) h
    | slotTransmissionSent i => exact hsame (kept_onPort i _).tables h
    | upstreamTransmissionBegin => exact hsame tables_beginUpstream h
    | upstreamTransmissionSent => exact hsame tables_endUpstream h
    | restartTakesEffect straps asWritten =>
      cases h
      split
      · exact tablesValid_restarted hs straps asWritten
      · exact hs
    | hardReset straps asWritten => exact hkeep (tablesValid_restarted hs straps asWritten) h
    | startUpScanEnd => exact hkeep (tablesValid_endScan hs) h
    | _ => nomatch hc

/-- Settles O4: command by command, most of which leave the Policy Tables and the Profile Store as they are. -/
theorem tablesStayValid : Obligations.TablesStayValid := by
  intro s t hs hstep
  unfold step at hstep
  split at hstep
  · cases hstep
    exact hs.of_tables rfl
  · next c rest _ => exact tablesValid_exec (s := { s with pending := rest }) (hs.of_tables rfl) c hstep

end Sys2Proof.Machine

/-!
# The management commands

A command is discarded, answered from the cache, or executed once; its execution leaves the waiting ANSWERs alone. The
commands whose own checks and effects are stated here are CLEAR_EVENTS, the store commands and RESTART, with the reset
that RESTART leads to; then come the reads, record by record.
-/

namespace Sys2Proof.Machine

-- The theorems are checked one after another: side by side, each would hold a thread of its own while it waits.
set_option Elab.async false

open Config

variable {s t : State}

/-! ## The taking of a command (R129) -/

section Taking

variable {q : Byte} {run : State → State × Settle}

theorem takeCommand_of_inactive (h : s.active = false) : takeCommand q run s = s := supplyFrame_of_inactive h

theorem takeCommand_of_full (ha : s.active = true) (hfull : answerPlaces ≤ s.man.answers.length) :
    takeCommand q run s = s.onSupply :=
  (supplyFrame_of_active ha).trans (if_pos hfull)

/-- R130: the cached ANSWER is placed again, and nothing is run. -/
theorem takeCommand_of_cached (ha : s.active = true) (hroom : s.man.answers.length < answerPlaces) {a : Answer}
    (hcache : s.man.cache = some a) (hseq : a.seq = q) : takeCommand q run s = s.onSupply.pushAnswer a := by
  have hhit : s.onSupply.man.cache.filter (·.seq == q) = some a := by simp [State.onSupply, hcache, hseq]
  refine (supplyFrame_of_active ha).trans ((if_neg (Nat.not_le.2 hroom)).trans ?_)
  simp only [answerCommand, hhit]

end Taking

/-! ### No command's run touches the waiting ANSWERs -/

theorem State.Kept.answers (h : s.Kept t) : t.man.answers = s.man.answers := congrArg ManagementUnit.answers h.man

theorem answers_runReadEntry (table index : Byte) : (runReadEntry table index s).1.man.answers = s.man.answers := by
  unfold runReadEntry naked
  (repeat' split) <;> rfl

theorem answers_runWritePolicy (slot : Byte) (record : List Byte) :
    (runWritePolicy slot record s).1.man.answers = s.man.answers := by
  unfold runWritePolicy naked acked
  (repeat' split) <;> rfl

theorem answers_runCommit : (runCommit s).1.man.answers = s.man.answers := by
  have hcommit : (commitStages s).man.answers = s.man.answers := kept_commitStages.answers
  unfold runCommit acked
  split
  · dsimp only
    rw [hcommit]
  · rfl

theorem answers_configEffect (it : ConfigItem) : (configEffect it s).man.answers = s.man.answers := by
  have hrecompute : (recompute s).man.answers = s.man.answers := kept_evalFlags.answers
  have hfigures := (kept_requestOnConfig s.bud.limit).answers.trans hrecompute
  have hmarks : (newMarks s).man.answers = s.man.answers := kept_evalWatermark.answers
  cases it with
  | budgetCap | safeBudget | reserve => exact hfigures
  | highMark | lowMark => exact hmarks
  | staleTimeout | acceptWindow | probeInterval | eventMask => rfl

theorem answers_runSetConfig (item : Byte) (body : List Byte) :
    (runSetConfig item body s).1.man.answers = s.man.answers := by
  cases hchange : configChange s.pol.items item body with
  | error reason => rw [runSetConfig_of_error hchange]
  | ok change =>
    rw [runSetConfig_of_ok hchange]
    exact answers_configEffect _

theorem answers_runClearEvents (count : Byte) (kinds : List Byte) :
    (runClearEvents count kinds s).1.man.answers = s.man.answers := by
  unfold runClearEvents naked acked
  (repeat' split) <;> rfl

theorem answers_runForceShed (slot g : Byte) (target : Nat) :
    (runForceShed slot g target s).1.man.answers = s.man.answers := by
  unfold runForceShed naked acked
  (repeat' split)
  case isFalse.isFalse => exact (kept_issueShed _ _ _ _).answers
  all_goals rfl

theorem answers_runForceClose (slot g : Byte) : (runForceClose slot g s).1.man.answers = s.man.answers := by
  cases hslot : slotOf? slot with
  | none => rw [runForceClose_badSlot hslot]; rfl
  | some i =>
    cases hc : s.contract? i g with
    | none => rw [runForceClose_noContract hslot hc]; rfl
    | some c =>
      rw [runForceClose_contract hslot hc]
      exact (((kept_closeContract i g).trans (kept_order i _)).trans (kept_afterClose _)).answers

theorem answers_runForceCut (slot : Byte) : (runForceCut slot s).1.man.answers = s.man.answers := by
  cases hslot : slotOf? slot with
  | none => rw [runForceCut_badSlot hslot]; rfl
  | some i =>
    rw [runForceCut_slot hslot]
    split
    · exact (kept_cutAndFollow i .forced).answers
    · rfl

theorem answers_runPortReset (slot : Byte) : (runPortReset slot s).1.man.answers = s.man.answers := by
  cases hslot : slotOf? slot with
  | none => rw [runPortReset_badSlot hslot]; rfl
  | some i =>
    rw [runPortReset_slot hslot]
    exact (kept_resetPort i).answers

theorem answers_storeCommand (page : Byte) {own : Slot → State → State × Settle}
    (h : ∀ p, (own p s).1.man.answers = s.man.answers) : (storeCommand page own s).1.man.answers = s.man.answers := by
  unfold storeCommand naked
  split
  · rfl
  · split
    · rfl
    · exact h _

theorem answers_ownErase (p : Slot) : (ownErase p s).1.man.answers = s.man.answers := by
  unfold ownErase naked acked
  split <;> rfl

theorem answers_ownSave (p : Slot) : (ownSave p s).1.man.answers = s.man.answers := by
  unfold ownSave naked acked
  (repeat' split) <;> rfl

theorem answers_ownLoad (p : Slot) : (ownLoad p s).1.man.answers = s.man.answers := by
  unfold ownLoad naked acked
  split <;> rfl

theorem answers_runRestart : (runRestart s).1.man.answers = s.man.answers := by
  unfold runRestart naked acked
  split <;> rfl

/-- A management command is taken by its sequence and its run, and the run leaves the waiting ANSWERs alone (R129). -/
theorem exec_command {c : Instr} {q : Byte} (hc : commandSeq? c = some q) (hw : c.wellFormed = true) :
    ∃ run : State → State × Settle, (∀ s : State, exec c s = .next (takeCommand q run s))
      ∧ ∀ s : State, (run s).1.man.answers = s.man.answers := by
  cases c with
  | queryStatus => cases hc; exact ⟨_, fun _ => rfl, fun _ => rfl⟩
  | readEntry _ table index => cases hc; exact ⟨_, fun _ => rfl, fun _ => answers_runReadEntry table index⟩
  | writePolicy _ slot record =>
    cases hc
    exact ⟨_, fun _ => congrArg _ (if_pos (by simpa [Instr.wellFormed] using hw)),
      fun _ => answers_runWritePolicy slot record⟩
  | discard => cases hc; exact ⟨_, fun _ => rfl, fun _ => rfl⟩
  | commit => cases hc; exact ⟨_, fun _ => rfl, fun _ => answers_runCommit⟩
  | setConfig _ item body =>
    cases hc
    exact ⟨_, fun _ => congrArg _ (if_pos hw), fun _ => answers_runSetConfig item body⟩
  | clearEvents _ count kinds =>
    cases hc
    exact ⟨_, fun _ => congrArg _ (if_pos (by simpa [Instr.wellFormed] using hw)),
      fun _ => answers_runClearEvents count kinds⟩
  | forceShed _ slot g target => cases hc; exact ⟨_, fun _ => rfl, fun _ => answers_runForceShed slot g _⟩
  | forceClose _ slot g => cases hc; exact ⟨_, fun _ => rfl, fun _ => answers_runForceClose slot g⟩
  | forceCut _ slot => cases hc; exact ⟨_, fun _ => rfl, fun _ => answers_runForceCut slot⟩
  | portReset _ slot => cases hc; exact ⟨_, fun _ => rfl, fun _ => answers_runPortReset slot⟩
  | storeErase _ page => cases hc; exact ⟨_, fun _ => rfl, fun _ => answers_storeCommand page answers_ownErase⟩
  | storeSave _ page => cases hc; exact ⟨_, fun _ => rfl, fun _ => answers_storeCommand page answers_ownSave⟩
  | storeLoad _ page => cases hc; exact ⟨_, fun _ => rfl, fun _ => answers_storeCommand page answers_ownLoad⟩
  | restart => cases hc; exact ⟨_, fun _ => rfl, fun _ => answers_runRestart⟩
  | _ => simp [commandSeq?] at hc

/-- Settles O42: the four steps of R129 are those of `takeCommand`, whose run places no ANSWER of its own. -/
theorem commandsAreTakenOnce : Obligations.CommandsAreTakenOnce := by
  intro s c q hc hw
  obtain ⟨run, hexec, hanswers⟩ := exec_command hc hw
  rw [hexec]
  refine ⟨fun hi => ?_, fun ha hfull => ?_, fun ha hroom a hcache hseq => ?_, fun hx => ?_⟩
  · rw [takeCommand_of_inactive hi]
  · rw [takeCommand_of_full ha hfull]
  · rw [takeCommand_of_cached ha hroom hcache hseq]
    rfl
  · refine ⟨(run s.onSupply).1.settled q (run s.onSupply).2, (run s.onSupply).2,
      congrArg _ (takeCommand_settled hx rfl), ?_, rfl⟩
    show (run s.onSupply).1.man.answers ++ _ = _
    rw [hanswers]
    rfl

/-! ## CLEAR_EVENTS (R132, R136) -/

/-- R132: the check of form fails where the count is above 18 or does not agree with the list. -/
theorem listFormOk_eq_false {count : Byte} {kinds : List Byte} :
    listFormOk count kinds = false ↔ 18 < count.toNat ∨ count.toNat ≠ kinds.length := by
  have hkinds : eventKinds = 18 := rfl
  simp only [listFormOk, Bool.eq_false_iff, ne_eq, Bool.and_eq_true, decide_eq_true_eq, beq_iff_eq]
  omega

section ClearEvents

variable {count : Byte} {kinds : List Byte}

theorem runClearEvents_malformed (h : listFormOk count kinds = false) :
    runClearEvents count kinds s = naked .malformed s := by
  simp [runClearEvents, h]

theorem runClearEvents_badValue (h : listFormOk count kinds = true) (hset : kindSetOf? kinds = none) :
    runClearEvents count kinds s = naked .badValue s := by
  simp [runClearEvents, h, hset]

theorem runClearEvents_cleared {set : KindSet} (h : listFormOk count kinds = true) (hset : kindSetOf? kinds = some set) :
    runClearEvents count kinds s = acked { s with ntc.flags := s.ntc.flags &&& ~~~set } := by
  simp [runClearEvents, h, hset]

/-- An executed CLEAR_EVENTS of a length that a frame can carry. -/
theorem exec_clearEvents {q : Byte} {outcome : Settle} (h : s.executes q) (hlength : kinds.length ≤ 31)
    (hrun : runClearEvents count kinds s.onSupply = (t, outcome)) :
    exec (.clearEvents q count kinds) s = .next (t.settled q outcome) := by
  have hexec : exec (.clearEvents q count kinds) s = .next (if kinds.length ≤ 31 then
    takeCommand q (runClearEvents count kinds) s else malformedFrame .supply s) := rfl
  rw [hexec, if_pos hlength, takeCommand_settled h hrun]

end ClearEvents

/-- Settles O46: the checks in order; the cleared bits are those of the set that the codes name. -/
theorem eventFlagsAreCleared : Obligations.EventFlagsAreCleared := by
  intro s q count kinds hx hlength gives
  split
  · next hform => exact exec_clearEvents hx hlength (runClearEvents_malformed (listFormOk_eq_false.2 hform))
  · next hform =>
    have hok : listFormOk count kinds = true := by simpa using mt listFormOk_eq_false.1 hform
    split
    · next hnone => exact exec_clearEvents hx hlength (runClearEvents_badValue hok (kindSetOf?_eq_none.2 hnone))
    · next hsome =>
      obtain ⟨set, hset⟩ := Option.ne_none_iff_exists'.1 (mt kindSetOf?_eq_none.1 hsome)
      refine ⟨s.ntc.flags &&& ~~~set, fun n hn => ?_, exec_clearEvents hx hlength (runClearEvents_cleared hok hset)⟩
      rw [BitVec.getLsbD_and, BitVec.getLsbD_not, kindSetOf?_bits hset n hn, decide_eq_true hn, Bool.true_and]

/-! ## The store commands (R143, R159, R160, R162) -/

section Store

variable {page : Byte} {p : Slot} {own : Slot → State → State × Settle}

theorem storeCommand_badIndex (h : slotOf? page = none) : storeCommand page own s = naked .badIndex s := by
  simp only [storeCommand, h]

theorem storeCommand_busy (h : slotOf? page = some p) (hop : s.store.op.isSome = true) :
    storeCommand page own s = naked .busy s := by
  simp only [storeCommand, h, if_pos hop]

theorem storeCommand_own (h : slotOf? page = some p) (hop : ¬ s.store.op.isSome = true) :
    storeCommand page own s = own p s := by
  simp only [storeCommand, h, if_neg hop]

theorem ownLoad_valid {img : Image} (h : s.page p = .valid img) : ownLoad p s = acked (s.start (.load p)) := by
  simp only [ownLoad, h]

theorem ownLoad_notValid (h : (s.page p).generation? = none) : ownLoad p s = naked .notValid s := by
  unfold ownLoad
  cases hp : s.page p with
  | valid img => simp [hp, Page.generation?] at h
  | blank => rfl
  | damaged => rfl

theorem ownSave_isProtected : ownSave 0 s = naked .isProtected s := if_pos rfl

theorem ownSave_notBlank (hp : p ≠ 0) (h : s.page p ≠ .blank) : ownSave p s = naked .notBlank s :=
  (if_neg hp).trans (if_pos h)

theorem ownSave_blank (hp : p ≠ 0) (h : s.page p = .blank) : ownSave p s =
    if greatestGeneration s.store.pages = some maxGeneration then naked .exhausted s
    else acked (s.start (.save p s.capture)) :=
  (if_neg hp).trans (if_neg (not_not.2 h))

/-- R160: with a greatest generation, the save is stamped with the next one while there is one. -/
theorem ownSave_next (hp : p ≠ 0) (h : s.page p = .blank) {g : Nat} (hg : greatestGeneration s.store.pages = some g) :
    ownSave p s = if g = 0xFFFFFFFF then naked .exhausted s
      else acked (s.start (.save p (.stamped s.pol.active s.pol.items (g + 1)))) := by
  have hmax : maxGeneration = 0xFFFFFFFF := rfl
  simp [ownSave_blank hp h, State.capture, nextGeneration, hg, hmax]

/-- R160: where no page is VALID, the save is stamped with 1. -/
theorem ownSave_first (hp : p ≠ 0) (h : s.page p = .blank) (hg : greatestGeneration s.store.pages = none) :
    ownSave p s = acked (s.start (.save p (.stamped s.pol.active s.pol.items 1))) := by
  simp [ownSave_blank hp h, State.capture, nextGeneration, hg]

theorem slot_eq_zero_iff (h : page.toNat < 8) : (⟨page.toNat, h⟩ : Slot) = 0 ↔ page = 0 := by
  simp [Fin.ext_iff, BitVec.toNat_eq]

end Store

/-- Settles O51: the checks in order; a save by the greatest generation of the pages. -/
theorem storeCommandsStart : Obligations.StoreCommandsStart := by
  intro s q page hx gives all start nak image
  have herase : ∀ {t outcome}, storeCommand page ownErase s.onSupply = (t, outcome) →
      gives (.storeErase q page) (t.settled q outcome) := fun hr => congrArg _ (takeCommand_settled hx hr)
  have hsave : ∀ {t outcome}, storeCommand page ownSave s.onSupply = (t, outcome) →
      gives (.storeSave q page) (t.settled q outcome) := fun hr => congrArg _ (takeCommand_settled hx hr)
  have hload : ∀ {t outcome}, storeCommand page ownLoad s.onSupply = (t, outcome) →
      gives (.storeLoad q page) (t.settled q outcome) := fun hr => congrArg _ (takeCommand_settled hx hr)
  split
  · next hlt =>
    intro p
    have hslot : slotOf? page = some p := slotOf?_of_lt hlt
    have hzero : p = 0 ↔ page = 0 := slot_eq_zero_iff hlt
    split
    · next hop =>
      exact ⟨herase (storeCommand_busy hslot hop), hsave (storeCommand_busy hslot hop),
        hload (storeCommand_busy hslot hop)⟩
    · next hop =>
      have hown : ∀ own, storeCommand page own s.onSupply = own p s.onSupply := fun _ => storeCommand_own hslot hop
      refine ⟨?_, fun img hp => ?_, fun hp => ?_, fun h0 => ?_, fun h0 hp => ?_, fun h0 hp g hmax => ⟨?_, ?_⟩⟩
      · split
        · next h0 => exact herase ((hown _).trans (if_pos (hzero.2 h0)))
        · next h0 => exact herase ((hown _).trans (if_neg (mt hzero.1 h0)))
      · exact hload ((hown _).trans (ownLoad_valid hp))
      · exact hload ((hown _).trans (ownLoad_notValid hp))
      · exact hsave ((hown _).trans (hzero.2 h0 ▸ ownSave_isProtected))
      · exact hsave ((hown _).trans (ownSave_notBlank (mt hzero.1 h0) hp))
      · rintro ⟨r, hr⟩
        have hrun := (hown _).trans
          (ownSave_next (s := s.onSupply) (mt hzero.1 h0) hp (greatestGeneration_eq_some hr hmax))
        split
        · next hg => exact hsave (hrun.trans (if_pos hg))
        · next hg => exact hsave (hrun.trans (if_neg hg))
      · intro hnone
        exact hsave ((hown _).trans
          (ownSave_first (s := s.onSupply) (mt hzero.1 h0) hp (greatestGeneration_eq_none hnone)))
  · next hge =>
    have hslot := slotOf?_of_not_lt hge
    exact ⟨herase (storeCommand_badIndex hslot), hsave (storeCommand_badIndex hslot),
      hload (storeCommand_badIndex hslot)⟩

/-! ## RESTART and the hard reset (R141, R163, R165) -/

theorem runRestart_eq (s : State) : runRestart s =
    if s.store.op.isSome = true then naked .busy s else acked { s with man.restartWait := true } := rfl

/-- R141: a restart is due once the ACK and every transmission are out. -/
theorem restartDue_iff : s.restartDue = true ↔ s.man.restartWait = true ∧ s.man.answers = []
    ∧ s.supply.transmission = none ∧ ∀ i, (s.port i).transmission = none := by
  simp [State.restartDue, mem_allSlots, and_assoc]

theorem startsClean_restarted (s : State) (straps : BitVec 2) (asWritten : BitVec 8) :
    (s.restarted straps asWritten).StartsClean :=
  fun _ => ⟨port_reset, rfl, rfl, rfl, rfl, rfl, rfl, rfl, rfl⟩

/-- R163: the page of an erase or save in progress is struck, every other one is as it was. -/
theorem get_interruptStore (store : ProfileStore) (p : Slot) : (interruptStore store).get p =
    if store.op.bind StoreOp.target? = some p then .damaged else store.pages.get p := by
  have hset : ∀ r : Slot, (store.pages.set r.val .damaged).get p =
      if some r = some p then .damaged else store.pages.get p := by
    intro r
    by_cases hr : p = r
    · subst hr
      simp
    · rw [get_set_other _ _ hr, if_neg fun he => hr (Option.some.inj he).symm]
  unfold interruptStore
  split
  · next r hop => simpa [hop, StoreOp.target?] using hset r
  · next r img hop => simpa [hop, StoreOp.target?] using hset r
  · next r hop => simp [hop, StoreOp.target?]
  · next hop => simp [hop]

theorem target?_eq_some {op : Option StoreOp} {p : Slot} : op.bind StoreOp.target? = some p ↔
    op = some (.erase p) ∨ ∃ img, op = some (.save p img) := by
  rcases op with _ | ⟨r⟩ | ⟨r, img⟩ | ⟨r⟩ <;> simp [StoreOp.target?]

theorem page_restarted (s : State) (straps : BitVec 2) (asWritten : BitVec 8) (p : Slot) :
    (s.restarted straps asWritten).page p = ((interruptStore s.store).get p).scan (asWritten.getLsbD p.val) :=
  get_scanPages asWritten _ p

/-- Settles O53: RESTART's check, a restart that is due or not, and the reset block by block and page by page. -/
theorem restartAndHardReset : Obligations.RestartAndHardReset := by
  intro s q straps asWritten idle
  have hdue : s.restartDue = true ↔ idle := restartDue_iff
  refine ⟨fun hx => ?_, fun hidle => congrArg _ (if_neg (mt hdue.1 hidle)), s.restarted straps asWritten, rfl,
    fun hidle => congrArg _ (if_pos (hdue.2 hidle)), rfl, rfl, rfl, rfl, startsClean_restarted s straps asWritten, rfl,
    rfl, fun p => ?_⟩
  · have hrun := runRestart_eq s.onSupply
    split
    · next hop => exact congrArg _ (takeCommand_settled hx (hrun.trans (if_pos hop)))
    · next hop => exact congrArg _ (takeCommand_settled hx (hrun.trans (if_neg hop)))
  · intro struck
    have hstruck : s.store.op.bind StoreOp.target? = some p ↔ struck := target?_eq_some
    rw [page_restarted, get_interruptStore]
    refine ⟨fun h => ?_, fun h => ?_⟩
    · rw [if_pos (hstruck.2 h)]
      rfl
    · rw [if_neg (mt hstruck.1 h)]
      show (s.page p).scan _ = _
      cases s.page p with
      | valid img => simp [Page.scan, Image.intact]
      | blank => rfl
      | damaged => rfl

/-! ## The reads (R133 to R135, R182) -/

/-! ### Flags and times -/

/-- The part of a flags byte that one bit stands for (R182). -/
def flagBit (b : Bool) (n : Nat) : Nat := if b = true then 2 ^ n else 0

theorem flagByte_six (a b c d e f : Bool) : flagByte [a, b, c, d, e, f] =
    byteOf (flagBit a 0 + flagBit b 1 + flagBit c 2 + flagBit d 3 + flagBit e 4 + flagBit f 5) := by
  simp only [Nat.add_assoc]
  rfl

theorem byteOf_toNat (b : Byte) : byteOf b.toNat = b := by simp [byteOf]

/-! ### The CONTRACT entry in each state of the contract -/

theorem bytes2_zero : bytes2 0 = [0, 0] := rfl
theorem bytes4_zero : bytes4 0 = [0, 0, 0, 0] := rfl
theorem remaining_none (s : State) : s.remaining none = 0 := rfl

theorem contractEntry_offered (s : State) (i : Slot) (g : Byte) (amount : Nat) (d : Time) :
    s.contractEntry ⟨i, g, amount, .offered d⟩ =
      [byteOf i.val, g, 0, 2] ++ bytes2 amount ++ [0, 0] ++ bytes2 (d - s.now) ++ [0, 0, 0, 0, 0, 0, 0, 0, 0] := by
  have hflags : flagByte [false, true, false, false, false] = 2 := rfl
  simp only [State.contractEntry, Contract.offerDeadline?, Contract.shedDeadline?, Contract.leaseExpiry?,
    Contract.reportDeadline?, Contract.overCount, Option.isSome_none, Option.isSome_some, Option.any_none, hflags,
    Option.map_none, Option.getD_none, remaining_none, bytes2_zero, bytes4_zero, List.append_assoc]
  rfl

theorem contractEntry_held (s : State) (i : Slot) (g : Byte) (amount : Nat) (gr : Grant) :
    s.contractEntry ⟨i, g, amount, .held gr⟩ =
      [byteOf i.val, g, 1, byteOf (flagBit gr.leaseExpiry.isSome 2 + flagBit gr.reportDeadline.isSome 3)] ++ bytes2 amount
        ++ [0, 0, 0, 0, 0, 0] ++ bytes4 (s.remaining gr.leaseExpiry) ++ bytes2 (s.remaining gr.reportDeadline)
        ++ [byteOf gr.overCount] := by
  have hflags : ∀ a b, flagByte [false, false, a, b, false] = byteOf (flagBit a 2 + flagBit b 3) := by decide
  simp only [State.contractEntry, Contract.offerDeadline?, Contract.shedDeadline?, Contract.leaseExpiry?,
    Contract.reportDeadline?, Contract.overCount, Option.isSome_none, Option.any_none, hflags,
    Option.map_none, Option.getD_none, remaining_none, bytes2_zero, List.append_assoc]
  rfl

theorem contractEntry_shedding (s : State) (i : Slot) (g : Byte) (amount : Nat) (gr : Grant) (sh : Shed) :
    s.contractEntry ⟨i, g, amount, .shedding gr sh⟩ =
      [byteOf i.val, g, 2, byteOf (1 + (flagBit gr.leaseExpiry.isSome 2 + flagBit gr.reportDeadline.isSome 3)
          + flagBit sh.forced 4)] ++ bytes2 amount ++ bytes2 sh.target ++ [0, 0] ++ bytes2 (sh.deadline - s.now)
        ++ bytes4 (s.remaining gr.leaseExpiry) ++ bytes2 (s.remaining gr.reportDeadline) ++ [byteOf gr.overCount] := by
  have hflags : ∀ a b c, flagByte [true, false, a, b, c] = byteOf (1 + (flagBit a 2 + flagBit b 3) + flagBit c 4) := by
    decide
  simp only [State.contractEntry, Contract.offerDeadline?, Contract.shedDeadline?, Contract.leaseExpiry?,
    Contract.reportDeadline?, Contract.overCount, Option.isSome_none, Option.isSome_some, Option.any_some, hflags,
    Option.map_some, Option.getD_some, remaining_none, bytes2_zero, List.append_assoc]
  rfl

/-! ### READ_ENTRY's checks (R134) -/

section ReadEntry

variable {q table index : Byte} {k : Table} {bytes : List Byte}

theorem tableOfCode?_eq_none {n : Nat} (h1 : n ≠ 1) (h2 : n ≠ 2) (h3 : n ≠ 3) (h4 : n ≠ 4) (h5 : n ≠ 5) (h6 : n ≠ 6)
    (h7 : n ≠ 7) : Table.ofCode? n = none := by
  unfold Table.ofCode?
  split
  case h_8 => rfl
  all_goals contradiction

theorem exec_readEntry_badTable (hx : s.executes q) (h : Table.ofCode? table.toNat = none) :
    exec (.readEntry q table index) s = .next (s.onSupply.settled q (.nak .badTable)) :=
  congrArg _ (takeCommand_settled hx (by simp only [runReadEntry, h, naked]))

theorem exec_readEntry_badIndex (hx : s.executes q) (h : Table.ofCode? table.toNat = some k)
    (hn : k.size ≤ index.toNat) :
    exec (.readEntry q table index) s = .next (s.onSupply.settled q (.nak .badIndex)) :=
  congrArg _ (takeCommand_settled hx (by simp only [runReadEntry, h, if_pos hn, naked]))

theorem exec_readEntry_data (hx : s.executes q) (h : Table.ofCode? table.toNat = some k)
    (hn : index.toNat < k.size) : exec (.readEntry q table index) s =
      .next (s.onSupply.settled q (.ack (entryData (s.tableEntry k index.toNat)))) :=
  congrArg _ (takeCommand_settled hx (by simp only [runReadEntry, h, if_neg (Nat.not_le.2 hn)]; rfl))

theorem exec_readEntry_empty (hx : s.executes q) (h : Table.ofCode? table.toNat = some k)
    (hn : index.toNat < k.size) (hfound : s.tableEntry k index.toNat = none) :
    exec (.readEntry q table index) s = .next (s.onSupply.settled q (.ack [1])) := by
  rw [exec_readEntry_data hx h hn, hfound]
  rfl

theorem exec_readEntry_full (hx : s.executes q) (h : Table.ofCode? table.toNat = some k)
    (hn : index.toNat < k.size) (hfound : s.tableEntry k index.toNat = some bytes) :
    exec (.readEntry q table index) s = .next (s.onSupply.settled q (.ack (0 :: bytes))) := by
  rw [exec_readEntry_data hx h hn, hfound]
  rfl

end ReadEntry

theorem slot_ofNat {n : Nat} (h : n < 8) : (Fin.ofNat 8 n : Slot) = ⟨n, h⟩ := Fin.ext (Nat.mod_eq_of_lt h)

/-- Settles O43: each record byte by byte, and READ_ENTRY's checks table by table. -/
theorem readsAnswerTheirRecords : Obligations.ReadsAnswerTheirRecords := by
  intro s q table index hx flag left cls status granted contract entry slot record items config page read n
  have hleft : left = s.remaining := by
    funext d
    cases d <;> rfl
  have hcls : cls = SlotClass.code := by
    funext c
    cases c <;> rfl
  clear_value left cls
  subst hleft hcls
  have hstatus : s.statusRecord = status := by
    have hpart : boolCode (s.part == .running) = if s.part = .running then 1 else 0 := by cases s.part <;> rfl
    have hloaded : (s.store.loadedPage.map (·.val)).getD 0xFF =
        match s.store.loadedPage with | some p => p.val | none => 255 := by
      cases s.store.loadedPage <;> rfl
    rw [State.statusRecord, flagByte_six, hpart, hloaded]
    rfl
  have hcontract : ∀ c : Contract, s.contractEntry c = contract c ∧ (contract c).length = 19 := by
    rintro ⟨i, g, amount, d | gr | ⟨gr, sh⟩⟩
    · exact ⟨contractEntry_offered s i g amount d, rfl⟩
    · exact ⟨contractEntry_held s i g amount gr, rfl⟩
    · exact ⟨contractEntry_shedding s i g amount gr sh, rfl⟩
  have hentry : ∀ e, s.queueEntry e = entry e := fun e => rfl
  have hslot : ∀ i, s.slotEntry i = slot (s.port i) := by
    intro i
    unfold State.slotEntry
    generalize s.port i = p
    obtain ⟨state, _, _, _, _, _, declared, _⟩ := p
    have hstate : byteOf state.code = match state with
        | .disabled => 0 | .vacant => 1 | .joining => 2 | .present => 3 | .penalty => 4 | .mismatch => 5 := by
      cases state <;> rfl
    dsimp only
    rw [hstate]
    cases declared with
    | none => rfl
    | some d =>
      simp only [Option.map_some, Option.getD_some, byteOf_toNat]
      rfl
  have hrecord : ∀ p : Policy, p.bytes = record p := by
    intro p
    have haction : byteOf p.action.code = match p.action with | .notify => 0 | .cut => 1 := by cases p.action <;> rfl
    rw [Policy.bytes, haction]
    rfl
  have hpage : ∀ p : Page, p.bytes = page p := by
    rintro (_ | img | _) <;> rfl
  have hbad : ∀ {k : Table}, Table.ofCode? table.toNat = some k → k.size ≤ n → read (.nak .badIndex) :=
    exec_readEntry_badIndex hx
  have hempty : ∀ {k : Table}, Table.ofCode? table.toNat = some k → n < k.size → s.tableEntry k n = none →
      read (.ack [1]) := exec_readEntry_empty hx
  have hfull : ∀ {k : Table} {bytes : List Byte}, Table.ofCode? table.toNat = some k → n < k.size →
      s.tableEntry k n = some bytes → read (.ack (0 :: bytes)) := exec_readEntry_full hx
  have hcode : ∀ {m : Nat}, table.toNat = m → Table.ofCode? table.toNat = Table.ofCode? m := congrArg _
  refine ⟨?_, rfl, ?_⟩
  · rw [← hstatus]
    exact congrArg _ (takeCommand_settled hx rfl)
  · split
    case h_1 hk =>
      split
      · next hn => exact hbad (hcode hk) hn
      · next hn =>
        split
        · next hc => exact hempty (hcode hk) (Nat.lt_of_not_le hn) (by rw [State.tableEntry, hc]; rfl)
        · next c hc =>
          exact ⟨hfull (hcode hk) (Nat.lt_of_not_le hn) (by rw [State.tableEntry, hc, Option.map_some, (hcontract c).1]),
            (hcontract c).2⟩
    case h_2 hk =>
      split
      · next hn => exact hbad (hcode hk) hn
      · next hn =>
        split
        · next he => exact hempty (hcode hk) (Nat.lt_of_not_le hn) (by rw [State.tableEntry, he]; rfl)
        · next e he =>
          exact ⟨hfull (hcode hk) (Nat.lt_of_not_le hn) (by rw [State.tableEntry, he, Option.map_some, hentry]), rfl⟩
    case h_3 hk =>
      split
      · next hn => exact ⟨hfull (hcode hk) hn (by rw [State.tableEntry, slot_ofNat hn, hslot]), rfl⟩
      · next hn => exact hbad (hcode hk) (Nat.le_of_not_lt hn)
    case h_4 hk =>
      split
      · next hn => exact hfull (hcode hk) hn (by rw [State.tableEntry, slot_ofNat hn, hrecord]; rfl)
      · next hn => exact hbad (hcode hk) (Nat.le_of_not_lt hn)
    case h_5 hk =>
      split
      · next hn => exact hfull (hcode hk) hn (by rw [State.tableEntry, slot_ofNat hn, hrecord])
      · next hn => exact hbad (hcode hk) (Nat.le_of_not_lt hn)
    case h_6 hk =>
      split
      · next hn => exact ⟨hfull (hcode hk) (hn ▸ Nat.one_pos) rfl, rfl⟩
      · next hn => exact hbad (hcode hk) (Nat.one_le_iff_ne_zero.2 hn)
    case h_7 hk =>
      split
      · next hn => exact hfull (hcode hk) hn (by rw [State.tableEntry, slot_ofNat hn, hpage]; rfl)
      · next hn => exact hbad (hcode hk) (Nat.le_of_not_lt hn)
    case h_8 _ h1 h2 h3 h4 h5 h6 h7 =>
      exact exec_readEntry_badTable hx (tableOfCode?_eq_none h1 h2 h3 h4 h5 h6 h7)

end Sys2Proof.Machine

/-!
# Events and notices

The notice queue is a line: behind its oldest record every other one is WAITING (`NoticeUnit.Lined`), and the oldest one
is SENT (`NoticeUnit.Led`). An event's notice and NOTICE_LOST keep the line, led or not; that is what a record given up
needs, whose NOTICE_LOST is placed before the next record becomes SENT (R153). Everything that a step does to the Notice
Unit is a chain of `NoticeUnit.Act`s, and each of these leaves a line that is led.
-/

namespace Sys2Proof.Machine

-- The theorems are checked one after another: side by side, each would hold a thread of its own while it waits.
set_option Elab.async false

open Config

variable {s t u : State}

/-! ## Records and the seqs of a queue (R149) -/

/-- The kind and origin by which events merge (R150). -/
def Notice.key (n : Notice) : EventKind × Option Origin := (n.kind, n.origin)

theorem isSent_eq (n : Notice) : n.isSent = !n.isWaiting := rfl

theorem isSent_send (n : Notice) : n.send.isSent = true := rfl

theorem isSent_of_state {n : Notice} {sends : Nat} {x : Progress} (h : n.state = .sent sends x) : n.isSent = true := by
  simp [Notice.isSent, Notice.isWaiting, h]

theorem waitsFor_iff {k : EventKind} {o : Option Origin} {n : Notice} :
    n.waitsFor k o = true ↔ n.isWaiting = true ∧ n.key = (k, o) := by
  simp [Notice.waitsFor, Notice.key, and_assoc]

theorem count_le_of_sound {n : Notice} (h : n.sound = true) : n.count ≤ maxMerged := by
  simp only [Notice.sound, Bool.and_eq_true, decide_eq_true_eq] at h
  exact h.1.1.2

/-- The record that a new notice gets (R149). -/
def NoticeUnit.newRecord (u : NoticeUnit) (k : EventKind) (o : Option Origin) (d : Nat) (reserved : Bool) : Notice :=
  ⟨u.nextSeq, k, o, 1, d, reserved, .waiting⟩

@[simp] theorem newRecord_isWaiting {u : NoticeUnit} {k : EventKind} {o : Option Origin} {d : Nat} {reserved : Bool} :
    (u.newRecord k o d reserved).isWaiting = true := rfl

@[simp] theorem newRecord_reserved {u : NoticeUnit} {k : EventKind} {o : Option Origin} {d : Nat} {reserved : Bool} :
    (u.newRecord k o d reserved).reserved = reserved := rfl

theorem create_eq (u : NoticeUnit) (k : EventKind) (o : Option Origin) (d : Nat) (reserved : Bool) :
    u.create k o d reserved = ⟨u.flags, promote (u.queue ++ [u.newRecord k o d reserved]), u.nextSeq + 1⟩ := rfl

/-- A new record is sound: its count is 1, and it stands in the reserved place only for NOTICE_LOST (R149, R151). -/
theorem sound_newRecord {u : NoticeUnit} {k : EventKind} {o : Option Origin} {d : Nat} {reserved : Bool}
    (h : reserved = true → k = .noticeLost) : (u.newRecord k o d reserved).sound = true := by
  cases reserved with
  | false => rfl
  | true => rw [h rfl]; rfl

theorem sound_send {n : Notice} (h : n.sound = true) : n.send.sound = true := by
  simp only [Notice.sound, Bool.and_eq_true] at h ⊢
  exact ⟨h.1, rfl⟩

/-- A new record takes the counter's seq, and the counter advances past it (R149). -/
theorem seqsBelow_add_one (next : Byte) (n : Nat) : seqsBelow (next + 1) (n + 1) = seqsBelow next n ++ [next] := by
  induction n with
  | zero => simp [seqsBelow]
  | succ n ih =>
    have hfirst : next + 1 - BitVec.ofNat 8 (n + 1 + 1) = next - BitVec.ofNat 8 (n + 1) := by
      rw [show BitVec.ofNat 8 (n + 1 + 1) = BitVec.ofNat 8 (n + 1) + 1 from BitVec.ofNat_add _ _]
      exact add_sub_add_right_eq_sub _ _ _
    calc seqsBelow (next + 1) (n + 1 + 1)
        = (next + 1 - BitVec.ofNat 8 (n + 1 + 1)) :: seqsBelow (next + 1) (n + 1) := rfl
      _ = seqsBelow next (n + 1) ++ [next] := by rw [hfirst, ih]; rfl

/-! ## The line (R149, R150, R152) -/

/-- The laws of the notice queue that hold whether its oldest record is SENT or still WAITING. -/
structure NoticeUnit.Lined (u : NoticeUnit) : Prop where
  tail : ∀ n ∈ u.queue.tail, n.isWaiting = true
  keys : ((u.queue.filter Notice.isWaiting).map Notice.key).Nodup
  general : generalCount u.queue ≤ generalPlaces
  reserved : (u.queue.filter (·.reserved)).length ≤ 1
  sound : ∀ n ∈ u.queue, n.sound = true
  seqs : u.queue.map (·.seq) = seqsBelow u.nextSeq u.queue.length

/-- The oldest record, if there is one, is SENT (R152). -/
def NoticeUnit.Led (u : NoticeUnit) : Prop := ∀ n ∈ u.queue.head?, n.isSent = true

/-- The laws of the notice queue: a line whose oldest record is SENT. -/
structure NoticeUnit.Ordered (u : NoticeUnit) : Prop where
  lined : u.Lined
  led : u.Led

theorem isWaiting_eq_false {n : Notice} (h : n.isSent = true) : n.isWaiting = false := by
  simpa [isSent_eq] using h

theorem led_cons {flags : KindSet} {n : Notice} {rest : List Notice} {next : Byte} :
    NoticeUnit.Led ⟨flags, n :: rest, next⟩ ↔ n.isSent = true := by
  simp [NoticeUnit.Led]

/-- Behind a SENT record, the WAITING records are all the others. -/
theorem filter_isWaiting_of_led {q : List Notice} (hled : ∀ n ∈ q.head?, n.isSent = true)
    (htail : ∀ n ∈ q.tail, n.isWaiting = true) : q.filter Notice.isWaiting = q.tail := by
  cases q with
  | nil => rfl
  | cons n rest =>
    have hn : n.isWaiting = false := isWaiting_eq_false (hled n rfl)
    exact (List.filter_cons_of_neg (by simp [hn])).trans (List.filter_eq_self.2 htail)

theorem noticesOrdered_iff : s.NoticesOrdered ↔ s.ntc.Ordered := by
  constructor
  · rintro ⟨hled, htail, hkeys, hgeneral, hreserved, hsound, hseqs⟩
    exact ⟨⟨htail, by rw [filter_isWaiting_of_led hled htail]; exact hkeys, hgeneral, hreserved, hsound, hseqs⟩, hled⟩
  · rintro ⟨⟨htail, hkeys, hgeneral, hreserved, hsound, hseqs⟩, hled⟩
    rw [filter_isWaiting_of_led hled htail] at hkeys
    exact ⟨hled, htail, hkeys, hgeneral, hreserved, hsound, hseqs⟩

/-! ### Records changed where they stand -/

/-- A record changed without leaving its place in the line. -/
structure Notice.Retouched (n m : Notice) : Prop where
  seq : m.seq = n.seq
  key : m.key = n.key
  reserved : m.reserved = n.reserved
  waiting : m.isWaiting = n.isWaiting
  sound : n.sound = true → m.sound = true

theorem Notice.Retouched.refl (n : Notice) : n.Retouched n := ⟨rfl, rfl, rfl, rfl, id⟩

theorem retouched_self (q : List Notice) : List.Forall₂ Notice.Retouched q q :=
  List.forall₂_same.2 fun n _ => .refl n

theorem retouched_modifyFirst {p : Notice → Bool} {f : Notice → Notice} (h : ∀ n, p n = true → n.Retouched (f n))
    (q : List Notice) : List.Forall₂ Notice.Retouched q (modifyFirst p f q) := by
  induction q with
  | nil => exact .nil
  | cons n rest ih =>
    unfold modifyFirst
    split
    · next hn => exact .cons (h n hn) (retouched_self rest)
    · exact .cons (.refl n) ih

theorem tail_retouched {q r : List Notice} (h : List.Forall₂ Notice.Retouched q r) :
    List.Forall₂ Notice.Retouched q.tail r.tail := by
  cases h with
  | nil => exact .nil
  | cons _ h => exact h

theorem forall_of_retouched {p : Notice → Prop} (hp : ∀ n m : Notice, n.Retouched m → p n → p m) {q r : List Notice}
    (h : List.Forall₂ Notice.Retouched q r) (hq : ∀ n ∈ q, p n) : ∀ m ∈ r, p m := by
  induction h with
  | nil => exact hq
  | cons hn _ ih =>
    obtain ⟨hhead, hrest⟩ := List.forall_mem_cons.1 hq
    exact List.forall_mem_cons.2 ⟨hp _ _ hn hhead, ih hrest⟩

/-- What every record keeps, the queue keeps. -/
theorem map_eq_of_retouched {α : Type} {g : Notice → α} (hg : ∀ n m : Notice, n.Retouched m → g m = g n)
    {q r : List Notice} (h : List.Forall₂ Notice.Retouched q r) : r.map g = q.map g := by
  induction h with
  | nil => rfl
  | cons hn _ ih => simp [hg _ _ hn, ih]

/-- Records chosen by what every record keeps are retouched as the queue is. -/
theorem filter_retouched {p : Notice → Bool} (hp : ∀ n m : Notice, n.Retouched m → p m = p n) {q r : List Notice}
    (h : List.Forall₂ Notice.Retouched q r) : List.Forall₂ Notice.Retouched (q.filter p) (r.filter p) := by
  induction h with
  | nil => exact .nil
  | @cons n m _ _ hn _ ih =>
    simp only [List.filter_cons, hp n m hn]
    split
    · exact .cons hn ih
    · exact ih

theorem NoticeUnit.Led.retouched {v w : NoticeUnit} (hled : v.Led)
    (h : List.Forall₂ Notice.Retouched v.queue w.queue) : w.Led := by
  obtain ⟨_, q, _⟩ := v
  obtain ⟨_, r, _⟩ := w
  cases h with
  | nil => exact hled
  | cons hn _ => exact led_cons.2 (by rw [isSent_eq, hn.waiting]; exact led_cons.1 hled)

theorem NoticeUnit.Lined.retouched {v w : NoticeUnit} (hv : v.Lined)
    (h : List.Forall₂ Notice.Retouched v.queue w.queue) (hnext : w.nextSeq = v.nextSeq := by rfl) : w.Lined where
  tail := forall_of_retouched (fun n m hn => hn.waiting.trans) (tail_retouched h) hv.tail
  keys := by
    rw [map_eq_of_retouched (fun n m hn => hn.key) (filter_retouched (fun n m hn => hn.waiting) h)]
    exact hv.keys
  general := by
    have hplaces := filter_retouched (p := (!·.reserved)) (fun n m hn => by rw [hn.reserved]) h
    exact hplaces.length_eq.symm.trans_le hv.general
  reserved := (filter_retouched (fun n m hn => hn.reserved) h).length_eq.symm.trans_le hv.reserved
  sound := forall_of_retouched (fun n m hn => hn.sound) h hv.sound
  seqs := by
    rw [map_eq_of_retouched (fun n m hn => hn.seq) h, hv.seqs, hnext, h.length_eq]

/-! ### The next record becomes SENT (R152) -/

theorem promote_of_led {n : Notice} {rest : List Notice} (h : n.isSent = true) : promote (n :: rest) = n :: rest :=
  if_pos (List.any_eq_true.2 ⟨n, List.mem_cons_self, h⟩)

/-- Where no record is SENT, the oldest becomes so. -/
theorem promote_of_waiting {q : List Notice} (h : ∀ n ∈ q, n.isWaiting = true) : promote q = nextSent q := by
  cases q with
  | nil => rfl
  | cons n rest =>
    have hnone : (n :: rest).any Notice.isSent = false := List.any_eq_false.2 fun m hm => by simp [isSent_eq, h m hm]
    have hfirst : modifyFirst Notice.isWaiting Notice.send (n :: rest) = n.send :: rest :=
      if_pos (h n List.mem_cons_self)
    exact (if_neg (by simp [hnone])).trans hfirst

theorem promote_nextSent (q : List Notice) : promote (nextSent q) = nextSent q := by
  cases q with
  | nil => rfl
  | cons n rest => exact promote_of_led (isSent_send n)

theorem nextSent_nextSent (q : List Notice) : nextSent (nextSent q) = nextSent q := by
  cases q <;> rfl

/-- Whoever leads a line, its next record becomes SENT where the oldest one is not. -/
theorem promote_cons {n : Notice} {rest : List Notice} (h : ∀ m ∈ rest, m.isWaiting = true) :
    promote (n :: rest) = (if n.isWaiting then n.send else n) :: rest := by
  split
  · next hn => exact promote_of_waiting (List.forall_mem_cons.2 ⟨hn, h⟩)
  · next hn => exact promote_of_led (by simpa [isSent_eq] using hn)

theorem length_filter_cons_of_eq {p : Notice → Bool} {n m : Notice} (h : p m = p n) (rest : List Notice) :
    ((m :: rest).filter p).length = ((n :: rest).filter p).length := by
  simp only [List.filter_cons, h]
  split <;> rfl

theorem NoticeUnit.Lined.promote {v : NoticeUnit} (h : v.Lined) :
    NoticeUnit.Ordered { v with queue := promote v.queue } := by
  obtain ⟨flags, q, next⟩ := v
  obtain ⟨htail, hkeys, hgeneral, hreserved, hsound, hseqs⟩ := h
  cases q with
  | nil => exact ⟨⟨htail, hkeys, hgeneral, hreserved, hsound, hseqs⟩, nofun⟩
  | cons n rest =>
    have hpromote : Machine.promote (n :: rest) = (if n.isWaiting then n.send else n) :: rest := promote_cons htail
    show NoticeUnit.Ordered ⟨flags, Machine.promote (n :: rest), next⟩
    rw [hpromote]
    split
    · next hn =>
      have hsub : (rest.filter Notice.isWaiting).Sublist ((n :: rest).filter Notice.isWaiting) :=
        (List.sublist_cons_self n rest).filter _
      obtain ⟨hfirst, hrest⟩ := List.forall_mem_cons.1 hsound
      refine ⟨⟨htail, hkeys.sublist (hsub.map _), ?_, ?_, List.forall_mem_cons.2 ⟨sound_send hfirst, hrest⟩, hseqs⟩,
        led_cons.2 (isSent_send n)⟩
      · exact (length_filter_cons_of_eq (n := n) (m := n.send) rfl rest).trans_le hgeneral
      · exact (length_filter_cons_of_eq (n := n) (m := n.send) rfl rest).trans_le hreserved
    · next hn => exact ⟨⟨htail, hkeys, hgeneral, hreserved, hsound, hseqs⟩, led_cons.2 (by simpa [isSent_eq] using hn)⟩

/-- The oldest record leaves (R153, R154). -/
theorem lined_rest {flags : KindSet} {n : Notice} {rest : List Notice} {next : Byte}
    (h : NoticeUnit.Lined ⟨flags, n :: rest, next⟩) : NoticeUnit.Lined ⟨flags, rest, next⟩ := by
  obtain ⟨htail, hkeys, hgeneral, hreserved, hsound, hseqs⟩ := h
  have hsub := List.sublist_cons_self n rest
  refine ⟨fun m hm => htail m (List.mem_of_mem_tail hm), hkeys.sublist ((hsub.filter _).map _), ?_, ?_,
    (List.forall_mem_cons.1 hsound).2, (List.cons.inj hseqs).2⟩
  · exact ((hsub.filter _).length_le).trans hgeneral
  · exact ((hsub.filter _).length_le).trans hreserved

/-! ### A new record, and an event merged into one (R149, R150) -/

theorem any_waitsFor_eq_false {q : List Notice} {k : EventKind} {o : Option Origin}
    (h : q.any (Notice.waitsFor k o) = false) : (k, o) ∉ (q.filter Notice.isWaiting).map Notice.key := by
  intro hk
  obtain ⟨n, hn, hkey⟩ := List.mem_map.1 hk
  obtain ⟨hmem, hwaits⟩ := List.mem_filter.1 hn
  exact List.any_eq_false.1 h n hmem (waitsFor_iff.2 ⟨hwaits, hkey⟩)

/-- A new record of a key that no WAITING record has, in a place that is free (R149 to R151). -/
theorem NoticeUnit.Lined.append {v : NoticeUnit} (h : v.Lined) {k : EventKind} {o : Option Origin} {d : Nat}
    {reserved : Bool} (hkey : v.queue.any (Notice.waitsFor k o) = false)
    (hgeneral : reserved = false → generalCount v.queue < generalPlaces)
    (hreserved : reserved = true → k = .noticeLost ∧ v.queue.any (·.reserved) = false) :
    NoticeUnit.Lined ⟨v.flags, v.queue ++ [v.newRecord k o d reserved], v.nextSeq + 1⟩ where
  tail := by
    have hlast : ∀ m ∈ [v.newRecord k o d reserved], m.isWaiting = true := by simp
    cases hq : v.queue with
    | nil => exact nofun
    | cons n rest => exact List.forall_mem_append.2 ⟨fun m hm => h.tail m (by rwa [hq]), hlast⟩
  keys := by
    have hlast : ([v.newRecord k o d reserved].filter Notice.isWaiting).map Notice.key = [(k, o)] := rfl
    rw [List.filter_append, List.map_append, hlast]
    exact (List.perm_append_singleton _ _).nodup_iff.2 (List.nodup_cons.2 ⟨any_waitsFor_eq_false hkey, h.keys⟩)
  general := by
    have hplaces := h.general
    cases reserved with
    | false => simpa [generalCount] using hgeneral rfl
    | true => simpa [generalCount] using hplaces
  reserved := by
    have hplaces := h.reserved
    cases reserved with
    | false => simpa using hplaces
    | true =>
      have hnone : v.queue.filter (·.reserved) = [] :=
        List.filter_eq_nil_iff.2 fun n hn => List.any_eq_false.1 (hreserved rfl).2 n hn
      simp [hnone, List.filter_cons]
  sound := by
    have hlast := sound_newRecord (u := v) (o := o) (d := d) fun hr => (hreserved hr).1
    exact List.forall_mem_append.2 ⟨h.sound, fun m hm => List.mem_singleton.1 hm ▸ hlast⟩
  seqs := by
    rw [List.map_append, h.seqs, List.length_append, List.length_singleton, seqsBelow_add_one]
    rfl

theorem retouched_merge {n : Notice} (d : Nat) : n.Retouched (n.merge d) where
  seq := rfl
  key := rfl
  reserved := rfl
  waiting := rfl
  sound h := by
    simp only [Notice.sound, Bool.and_eq_true, decide_eq_true_eq] at h ⊢
    obtain ⟨⟨⟨hone, hmax⟩, hplace⟩, hstate⟩ := h
    refine ⟨⟨⟨?_, ?_⟩, hplace⟩, hstate⟩ <;> simp only [Notice.merge] <;> split <;> omega

/-! ### What an event's notice leaves (R150, R151) -/

/-- A line that is led where the one before it was. -/
structure NoticeUnit.Follows (v w : NoticeUnit) : Prop where
  lined : w.Lined
  led : v.Led → w.Led

theorem NoticeUnit.Follows.ordered {v w : NoticeUnit} (h : v.Follows w) (hv : v.Ordered) : w.Ordered :=
  ⟨h.lined, h.led hv.led⟩

theorem follows_mergeInto {v : NoticeUnit} (h : v.Lined) (k : EventKind) (o : Option Origin) (d : Nat) :
    v.Follows (v.mergeInto k o d) := by
  have hq := retouched_modifyFirst (p := Notice.waitsFor k o) (fun n _ => retouched_merge d) v.queue
  exact ⟨h.retouched hq, fun hled => hled.retouched hq⟩

theorem follows_create {v : NoticeUnit} (h : v.Lined) {k : EventKind} {o : Option Origin} {d : Nat} {reserved : Bool}
    (hkey : ¬ v.queue.any (Notice.waitsFor k o) = true)
    (hgeneral : reserved = false → generalCount v.queue < generalPlaces)
    (hreserved : reserved = true → k = .noticeLost ∧ ¬ v.queue.any (·.reserved) = true) :
    v.Follows (v.create k o d reserved) := by
  have happended := h.append (d := d) (Bool.eq_false_of_not_eq_true hkey) hgeneral
    fun hr => ⟨(hreserved hr).1, Bool.eq_false_of_not_eq_true (hreserved hr).2⟩
  exact ⟨happended.promote.lined, fun _ => happended.promote.led⟩

theorem follows_placeLost {v : NoticeUnit} (h : v.Lined) (d : Nat) : v.Follows (v.placeLost d) := by
  unfold NoticeUnit.placeLost
  split
  · exact follows_mergeInto h _ _ _
  · next hkey =>
    split
    · next hroom => exact follows_create h hkey (fun _ => hroom) nofun
    · split
      · exact ⟨h, id⟩
      · next hplace => exact follows_create h hkey nofun fun _ => ⟨rfl, hplace⟩

theorem NoticeUnit.Lined.flag {v : NoticeUnit} (h : v.Lined) (k : EventKind) : (v.flag k).Lined :=
  h.retouched (retouched_self v.queue)

theorem follows_raiseLost {v : NoticeUnit} (h : v.Lined) (mask : KindSet) (lost : EventKind) :
    v.Follows (v.raiseLost mask lost) := by
  unfold NoticeUnit.raiseLost
  split
  · exact ⟨h.flag _, id⟩
  · obtain ⟨hlined, hled⟩ := follows_placeLost (h.flag .noticeLost) lost.code
    exact ⟨hlined, hled⟩

theorem follows_place {v : NoticeUnit} (h : v.Lined) (mask : KindSet) (k : EventKind) (o : Option Origin) (d : Nat) :
    v.Follows (v.place mask k o d) := by
  unfold NoticeUnit.place
  split
  · exact follows_mergeInto h _ _ _
  · next hkey =>
    split
    · next hroom => exact follows_create h hkey (fun _ => hroom) nofun
    · exact follows_raiseLost h mask k

theorem follows_raise {v : NoticeUnit} (h : v.Lined) (mask : KindSet) (k : EventKind) (o : Option Origin) (d : Nat) :
    v.Follows (v.raise mask k o d) := by
  unfold NoticeUnit.raise
  split
  · exact ⟨h.flag _, id⟩
  · obtain ⟨hlined, hled⟩ := follows_place (h.flag k) mask k o d
    exact ⟨hlined, hled⟩

/-! ## An event and its notice (R147, R150, R151) -/

/-- An event merged into a record whose count is in its range (R149, R150). -/
theorem merge_of_sound {n : Notice} (h : n.sound = true) (d : Nat) :
    n.merge d = { n with count := min (n.count + 1) 255, detail := d } := by
  have hmax : n.count ≤ 255 := count_le_of_sound h
  have hcount : (if n.count < 255 then n.count + 1 else n.count) = min (n.count + 1) 255 := by split <;> omega
  exact congrArg (fun count => { n with count := count, detail := d }) hcount

theorem mergeInto_of_lined {v : NoticeUnit} (h : v.Lined) (k : EventKind) (o : Option Origin) (d : Nat) :
    v.mergeInto k o d =
      { v with
        queue := modifyFirst (Notice.waitsFor k o) (fun n => { n with count := min (n.count + 1) 255, detail := d })
          v.queue } := by
  have hqueue : modifyFirst (Notice.waitsFor k o) (Notice.merge d) v.queue = _ :=
    modifyFirst_congr fun n hn => merge_of_sound (h.sound n (List.mem_of_find?_eq_some hn)) d
  exact congrArg (fun q => { v with queue := q }) hqueue

/-- Behind a SENT record a new one waits; in an empty queue it is SENT at once (R152). -/
theorem promote_append_of_led {q : List Notice} (h : ∀ n ∈ q.head?, n.isSent = true) (m : Notice)
    (hm : m.isWaiting = true) : promote (q ++ [m]) = q ++ [if q = [] then m.send else m] := by
  cases q with
  | nil => exact promote_of_waiting fun n hn => List.mem_singleton.1 hn ▸ hm
  | cons n rest => exact promote_of_led (h n rfl)

theorem create_of_led {v : NoticeUnit} (h : v.Led) (k : EventKind) (o : Option Origin) (d : Nat) (reserved : Bool) :
    v.create k o d reserved =
      ⟨v.flags, v.queue ++ [⟨v.nextSeq, k, o, 1, d, reserved, if v.queue = [] then .sent 0 .offered else .waiting⟩],
        v.nextSeq + 1⟩ := by
  rw [create_eq, promote_append_of_led h _ newRecord_isWaiting]
  split <;> rfl

theorem raise_eq {v : NoticeUnit} {k : EventKind} {o : Option Origin} {d : Nat}
    (h : s.ntc.raise s.pol.items.eventMask k o d = v) : s.raise k o d = { s with ntc := v } := h ▸ rfl

/-- Settles O55: each test of the statement is a branch of the Notice Unit's own. -/
theorem eventsBecomeNotices : Obligations.EventsBecomeNotices := by
  intro s k o d hs mask flags lostFlags queue merged gives
  obtain ⟨hlined, hled⟩ := noticesOrdered_iff.1 hs
  split
  · next hmask => exact raise_eq (if_pos hmask)
  · next hmask =>
    have hplace : s.ntc.raise mask k o d = (s.ntc.flag k).place mask k o d := if_neg hmask
    split
    · next hkey => exact raise_eq (hplace.trans ((if_pos hkey).trans (mergeInto_of_lined (hlined.flag k) k o d)))
    · next hkey =>
      split
      · next hroom =>
        have hcreate : (s.ntc.flag k).place mask k o d = (s.ntc.flag k).create k o d false :=
          (if_neg hkey).trans (if_pos hroom)
        exact raise_eq (hplace.trans (hcreate.trans (create_of_led (v := s.ntc.flag k) hled k o d false)))
      · next hroom =>
        have hlost : s.ntc.raise mask k o d = (s.ntc.flag k).raiseLost mask k :=
          hplace.trans ((if_neg hkey).trans (if_neg hroom))
        split
        · next hlostMask => exact raise_eq (hlost.trans (if_pos hlostMask))
        · next hlostMask =>
          have hplaceLost : s.ntc.raise mask k o d = ((s.ntc.flag k).flag .noticeLost).placeLost k.code :=
            hlost.trans (if_neg hlostMask)
          have hlined' := (hlined.flag k).flag .noticeLost
          split
          · next hlostKey =>
            exact raise_eq (hplaceLost.trans ((if_pos hlostKey).trans (mergeInto_of_lined hlined' _ _ _)))
          · next hlostKey =>
            have hreserve : ((s.ntc.flag k).flag .noticeLost).placeLost k.code = _ :=
              (if_neg hlostKey).trans (if_neg hroom)
            split
            · next hreserved => exact raise_eq (hplaceLost.trans (hreserve.trans (if_pos hreserved)))
            · next hreserved =>
              have hqueue : queue ≠ [] := by
                intro he
                simp [he] at hroom
              have hcreate : ((s.ntc.flag k).flag .noticeLost).create .noticeLost none k.code true =
                  ⟨lostFlags, queue ++ [⟨s.ntc.nextSeq, .noticeLost, none, 1, k.code, true, .waiting⟩],
                    s.ntc.nextSeq + 1⟩ := by
                rw [create_of_led (v := (s.ntc.flag k).flag .noticeLost) hled]
                show NoticeUnit.mk _ (queue ++ [⟨_, _, _, _, _, _, if queue = [] then _ else _⟩]) _ = _
                rw [if_neg hqueue]
                rfl
              exact raise_eq (hplaceLost.trans (hreserve.trans ((if_neg hreserved).trans hcreate)))

/-! ## NOTICE_ACK and the retransmit deadline (R152 to R154) -/

theorem acknowledge_nil {v : NoticeUnit} (h : v.queue = []) (seq : Byte) : v.acknowledge seq = v := by
  simp [NoticeUnit.acknowledge, h]

/-- In a line behind a SENT record, an acknowledgement is of that record or of none (R154). -/
theorem acknowledge_cons {v : NoticeUnit} {n : Notice} {rest : List Notice} (h : v.queue = n :: rest)
    (hn : n.isSent = true) (hrest : ∀ m ∈ rest, m.isWaiting = true) (seq : Byte) :
    v.acknowledge seq = if n.seq = seq then { v with queue := nextSent rest } else v := by
  have hnone : rest.any (fun m => m.isSent && m.seq == seq) = false :=
    List.any_eq_false.2 fun m hm => by simp [isSent_eq, hrest m hm]
  have hdrop : dropSent (n :: rest) = rest := List.eraseP_cons_of_pos hn
  unfold NoticeUnit.acknowledge
  rw [h, List.any_cons, hnone, hn, hdrop, promote_of_waiting hrest]
  simp

theorem sends_of_state {n : Notice} {sends : Nat} {x : Progress} (h : n.state = .sent sends x) : n.sends = sends := by
  simp [Notice.sends, h]

/-- The SENT record is offered again (R153). -/
theorem retransmit_again {v : NoticeUnit} {n : Notice} {rest : List Notice} (h : v.queue = n :: rest) {sends : Nat}
    {d : Time} (hst : n.state = .sent sends (.awaiting d)) (hsends : sends < 4) (mask : KindSet) :
    v.retransmit mask n = { v with queue := { n with state := .sent sends .offered } :: rest } := by
  have hcount : n.sends < maxSends := (sends_of_state hst).trans_lt hsends
  have hoffer : n.offerAgain = { n with state := .sent sends .offered } := by simp only [Notice.offerAgain, hst]
  rw [NoticeUnit.retransmit, if_pos hcount, h, modifyFirst, if_pos (isSent_of_state hst), hoffer]

/-- The SENT record is given up, and the next one becomes SENT behind its NOTICE_LOST (R153). -/
theorem retransmit_last {v : NoticeUnit} {n : Notice} {rest : List Notice} (h : v.queue = n :: rest) {sends : Nat}
    {d : Time} (hst : n.state = .sent sends (.awaiting d)) (hsends : 4 ≤ sends) (mask : KindSet) :
    v.retransmit mask n =
      { NoticeUnit.raiseLost ⟨v.flags, rest, v.nextSeq⟩ mask n.kind with
        queue := promote (NoticeUnit.raiseLost ⟨v.flags, rest, v.nextSeq⟩ mask n.kind).queue } := by
  have hcount : ¬ n.sends < maxSends := Nat.not_lt.2 (hsends.trans_eq (sends_of_state hst).symm)
  have hdrop : dropSent (n :: rest) = rest := List.eraseP_cons_of_pos (isSent_of_state hst)
  rw [NoticeUnit.retransmit, if_neg hcount, h, hdrop]

/-- A queue whose next record becomes SENT as the oldest of those that wait, or has become so already. -/
def NoticeUnit.Next (v : NoticeUnit) : Prop := promote v.queue = nextSent v.queue

theorem next_of_waiting {v : NoticeUnit} (h : ∀ n ∈ v.queue, n.isWaiting = true) : v.Next := promote_of_waiting h

theorem next_create {v : NoticeUnit} (h : ∀ n ∈ v.queue, n.isWaiting = true) (k : EventKind) (o : Option Origin)
    (d : Nat) (reserved : Bool) : (v.create k o d reserved).Next := by
  have hall : ∀ n ∈ v.queue ++ [v.newRecord k o d reserved], n.isWaiting = true :=
    List.forall_mem_append.2 ⟨h, by simp⟩
  rw [NoticeUnit.Next, create_eq, promote_of_waiting hall, promote_nextSent, nextSent_nextSent]

theorem next_mergeInto {v : NoticeUnit} (h : ∀ n ∈ v.queue, n.isWaiting = true) (k : EventKind) (o : Option Origin)
    (d : Nat) : (v.mergeInto k o d).Next :=
  next_of_waiting (forall_of_retouched (fun _ _ hn => hn.waiting.trans)
    (retouched_modifyFirst (fun _ _ => retouched_merge d) v.queue) h)

/-- With no record SENT, NOTICE_LOST leaves the oldest record to become SENT, or makes its own so (R151, R153). -/
theorem next_raiseLost {v : NoticeUnit} (h : ∀ n ∈ v.queue, n.isWaiting = true) (mask : KindSet) (lost : EventKind) :
    (v.raiseLost mask lost).Next := by
  unfold NoticeUnit.raiseLost
  split
  · exact next_of_waiting h
  · unfold NoticeUnit.placeLost
    split
    · exact next_mergeInto h _ _ _
    · split
      · exact next_create h _ _ _ _
      · split
        · exact next_of_waiting h
        · exact next_create h _ _ _ _

/-- An expiry of the SENT record's retransmit deadline is the Notice Unit's alone (R153). -/
theorem expireRetransmit_of_awaiting {n : Notice} {rest : List Notice} (ha : s.active = true)
    (h : s.ntc.queue = n :: rest) {sends : Nat} {d : Time} (hst : n.state = .sent sends (.awaiting d)) :
    expireRetransmit s = { s.reach d with ntc := s.ntc.retransmit s.pol.items.eventMask n } := by
  have hfind : s.ntc.queue.find? Notice.isSent = some n := by
    rw [h, List.find?_cons_of_pos (isSent_of_state hst)]
  have hdeadline : n.deadline? = some d := by simp [Notice.deadline?, hst]
  simp only [expireRetransmit, hfind, hdeadline, ha, if_true]

/-- Settles O56: the frame and the expiry reach the Notice Unit, which finds the SENT record first in its queue. -/
theorem noticesAreAcknowledgedOrGivenUp : Obligations.NoticesAreAcknowledgedOrGivenUp := by
  intro s ack ha hs
  have hack : ∀ v : NoticeUnit, s.ntc.acknowledge ack = v →
      exec (.noticeAck ack) s = .next { s.onSupply with ntc := v } := by
    rintro v rfl
    exact congrArg Host.Outcome.next (supplyFrame_of_active ha)
  obtain ⟨⟨htail, -⟩, hled⟩ := noticesOrdered_iff.1 hs
  refine ⟨fun hnil => hack _ (acknowledge_nil hnil ack), fun n rest hq => ⟨?_, fun sends d hst => ⟨?_, ?_⟩⟩⟩
  · have hn : n.isSent = true := hled n (by simp [hq])
    rw [hq] at htail
    rw [hack _ (acknowledge_cons hq hn htail ack)]
    split <;> rfl
  · intro hsends
    have hexpired := expireRetransmit_of_awaiting ha hq hst
    rw [retransmit_again hq hst hsends] at hexpired
    exact congrArg Host.Outcome.next hexpired
  · intro hsends
    have hexpired := expireRetransmit_of_awaiting ha hq hst
    have hnext := next_raiseLost (v := ⟨s.ntc.flags, rest, s.ntc.nextSeq⟩) (by rwa [hq] at htail)
      s.pol.items.eventMask n.kind
    rw [retransmit_last hq hst hsends, hnext] at hexpired
    exact congrArg Host.Outcome.next hexpired

/-! ## What can happen to the Notice Unit (R147 to R155) -/

/-- A SENT record that stays SENT, at another point of its transmissions. -/
theorem retouched_sent {n : Notice} {sends sends' : Nat} {x x' : Progress} (hst : n.state = .sent sends x)
    (hsound : n.sound = true → ({ n with state := .sent sends' x' } : Notice).sound = true) :
    n.Retouched { n with state := .sent sends' x' } where
  seq := rfl
  key := rfl
  reserved := rfl
  waiting := by simp [Notice.isWaiting, hst]
  sound := hsound

/-- A transmission that begins is the record's fourth at most (R153). -/
theorem retouched_beginSend (n : Notice) : n.Retouched n.beginSend := by
  unfold Notice.beginSend
  split
  · next sends hst =>
    refine retouched_sent hst fun h => ?_
    simp only [Notice.sound, hst, Bool.and_eq_true, decide_eq_true_eq] at h ⊢
    exact ⟨h.1, Nat.succ_pos _, h.2⟩
  · exact .refl n

theorem retouched_endSend (d : Time) (n : Notice) : n.Retouched (n.endSend d) := by
  unfold Notice.endSend
  split
  · next sends hst =>
    refine retouched_sent hst fun h => ?_
    simp only [Notice.sound, hst] at h ⊢
    exact h
  · exact .refl n

theorem retouched_map {f : Notice → Notice} (h : ∀ n : Notice, n.Retouched (f n)) (q : List Notice) :
    List.Forall₂ Notice.Retouched q (q.map f) := by
  induction q with
  | nil => exact .nil
  | cons n rest ih => exact .cons (h n) ih

/-- One change of the Notice Unit: an event, CLEAR_EVENTS, an acknowledgement, the expiry of a retransmit deadline, the
beginning and the end of a transmission, a reset. -/
inductive NoticeUnit.Act (v : NoticeUnit) : NoticeUnit → Prop
  | raise (mask : KindSet) (k : EventKind) (o : Option Origin) (d : Nat) : Act v (v.raise mask k o d)
  | clear (set : KindSet) : Act v { v with flags := v.flags &&& ~~~set }
  | acknowledge (seq : Byte) : Act v (v.acknowledge seq)
  | expire (mask : KindSet) {n : Notice} {d : Time} (hn : v.queue.find? Notice.isSent = some n)
      (hd : n.deadline? = some d) : Act v (v.retransmit mask n)
  | begin : Act v { v with queue := modifyFirst Notice.isOffered Notice.beginSend v.queue }
  | complete (d : Time) : Act v { v with queue := v.queue.map (Notice.endSend d) }
  | reset : Act v resetNotices

theorem NoticeUnit.Ordered.retouched {v w : NoticeUnit} (hv : v.Ordered)
    (h : List.Forall₂ Notice.Retouched v.queue w.queue) (hnext : w.nextSeq = v.nextSeq := by rfl) : w.Ordered :=
  ⟨hv.lined.retouched h hnext, hv.led.retouched h⟩

theorem ordered_reset : resetNotices.Ordered := noticesOrdered_iff.1 reset_noticesOrdered

/-- R154: behind the acknowledged record the line stands, and its oldest record becomes SENT. -/
theorem NoticeUnit.Ordered.acknowledge {v : NoticeUnit} (h : v.Ordered) (seq : Byte) : (v.acknowledge seq).Ordered := by
  cases hq : v.queue with
  | nil => rwa [acknowledge_nil hq]
  | cons n rest =>
    obtain ⟨flags, q, next⟩ := v
    subst hq
    obtain ⟨hlined, hled⟩ := h
    have hrest : ∀ m ∈ rest, m.isWaiting = true := hlined.tail
    rw [acknowledge_cons rfl (led_cons.1 hled) hrest]
    split
    · rw [← promote_of_waiting hrest]
      exact (lined_rest hlined).promote
    · exact ⟨hlined, hled⟩

/-- R153: the record is offered again, or leaves the line, in which NOTICE_LOST is placed before the oldest record
becomes SENT. -/
theorem NoticeUnit.Ordered.retransmit {v : NoticeUnit} (h : v.Ordered) (mask : KindSet) {n : Notice} {d : Time}
    (hn : v.queue.find? Notice.isSent = some n) (hd : n.deadline? = some d) : (v.retransmit mask n).Ordered := by
  obtain ⟨flags, q, next⟩ := v
  cases q with
  | nil => simp at hn
  | cons m rest =>
    have hm : m.isSent = true := led_cons.1 h.led
    obtain rfl : m = n := by simpa [hm] using hn
    obtain ⟨sends, hst⟩ := deadline?_eq_some hd
    by_cases hsends : sends < 4
    · rw [retransmit_again rfl hst hsends]
      refine h.retouched (.cons (retouched_sent hst fun hsound => ?_) (retouched_self rest))
      simp only [Notice.sound, hst, Bool.and_eq_true, decide_eq_true_eq] at hsound ⊢
      exact ⟨hsound.1, hsends⟩
    · rw [retransmit_last rfl hst (Nat.le_of_not_lt hsends)]
      exact (follows_raiseLost (lined_rest h.lined) mask m.kind).lined.promote

/-- Every change of the Notice Unit keeps its laws. -/
theorem NoticeUnit.Act.ordered {v w : NoticeUnit} (h : v.Act w) (hv : v.Ordered) : w.Ordered := by
  cases h with
  | raise mask k o d => exact (follows_raise hv.lined mask k o d).ordered hv
  | clear set => exact hv.retouched (retouched_self v.queue)
  | acknowledge seq => exact hv.acknowledge seq
  | expire mask hn hd => exact hv.retransmit mask hn hd
  | begin => exact hv.retouched (retouched_modifyFirst (fun n _ => retouched_beginSend n) v.queue)
  | complete d => exact hv.retouched (retouched_map (retouched_endSend d) v.queue)
  | reset => exact ordered_reset

/-! ## What each operation tells the Notice Unit

A change of anything but the Notice Unit is the empty chain; `rfl` says so where the state is replaced field by field. -/

/-- From one state to the next, the Notice Unit goes through a chain of its changes. -/
def State.Tells (s t : State) : Prop := Relation.ReflTransGen NoticeUnit.Act s.ntc t.ntc

theorem State.Tells.trans (h : s.Tells t) (k : t.Tells u) : s.Tells u := Relation.ReflTransGen.trans h k

theorem tells_same (h : t.ntc = s.ntc := by rfl) : s.Tells t := by
  unfold State.Tells
  rw [h]

theorem NoticeUnit.Act.tells (h : s.ntc.Act t.ntc) : s.Tells t := .single h

theorem State.Tells.ordered (h : s.Tells t) (hs : s.NoticesOrdered) : t.NoticesOrdered := by
  have hchain : ∀ {v w : NoticeUnit}, Relation.ReflTransGen NoticeUnit.Act v w → v.Ordered → w.Ordered := by
    intro v w hvw hv
    induction hvw with
    | refl => exact hv
    | tail _ hact ih => exact hact.ordered ih
  exact noticesOrdered_iff.2 (hchain h (noticesOrdered_iff.1 hs))

theorem tells_raise (k : EventKind) (o : Option Origin) (d : Nat) : s.Tells (s.raise k o d) :=
  NoticeUnit.Act.tells (.raise _ k o d)

theorem tells_setPort (i : Slot) (p : SlotPort) : s.Tells (s.setPort i p) := tells_same
theorem tells_onPort (i : Slot) (f : SlotPort → SlotPort) : s.Tells (s.onPort i f) := tells_same
theorem tells_order (i : Slot) (o : Order) : s.Tells (s.order i o) := tells_same
theorem tells_reply (i : Slot) (r : Reply) : s.Tells (s.reply i r) := tells_same

theorem tells_evalOvercommit : s.Tells (evalOvercommit s) := by
  rw [evalOvercommit_eq]
  split
  · exact tells_same
  · split
    · exact tells_raise _ _ _
    · exact tells_raise _ _ _

theorem tells_evalWatermark : s.Tells (evalWatermark s) := by
  rw [evalWatermark_eq]
  split
  · exact tells_same
  · exact tells_raise _ _ _

theorem tells_evalFlags : s.Tells (evalFlags s) := tells_evalOvercommit.trans tells_evalWatermark

theorem tells_recompute : s.Tells (recompute s) := tells_evalFlags (s := { s with bud := workOut s.bud s.pol.items })

theorem tells_foldl {α : Type} {f : State → α → State} (h : ∀ (v : State) (a : α), v.Tells (f v a)) (l : List α) :
    ∀ s : State, s.Tells (l.foldl f s) := by
  induction l with
  | nil => exact fun _ => tells_same
  | cons a r ih => exact fun s => (h s a).trans (ih _)

/-! ### Removal, creation, shed and cut -/

theorem removeContract_ntc (i : Slot) (g : Byte) : (s.removeContract i g).ntc = s.ntc := by
  unfold State.removeContract
  split <;> rfl

theorem issueShed_ntc (i : Slot) (g : Byte) (target : Nat) (forced : Bool) :
    (s.issueShed i g target forced).ntc = s.ntc := by
  unfold State.issueShed
  split
  · rfl
  · split <;> rfl

theorem tells_closeContract (i : Slot) (g : Byte) : s.Tells (s.closeContract i g) :=
  (tells_same (removeContract_ntc i g)).trans tells_evalFlags

theorem tells_withdraw (i : Slot) (g : Byte) : s.Tells (s.withdraw i g) :=
  (tells_closeContract i g).trans tells_same

theorem tells_createOffer (i : Slot) (g : Byte) (amount : Nat) : s.Tells (s.createOffer i g amount) := by
  rw [createOffer_eq]
  exact (tells_evalFlags (s := s.offered i g amount _)).trans tells_same

theorem tells_teardown (i : Slot) : s.Tells (s.teardown i) := tells_evalFlags (s := s.removeSlot i)

theorem tells_cut (i : Slot) (reason : CutReason) : s.Tells (s.cut i reason) := by
  by_cases h : (s.port i).state = .present
  · have hordered : s.Tells (s.cutOrdered i reason) :=
      (tells_teardown (s := s.deassert i) i).trans (tells_order i (.cut reason))
    rw [cut_of_present h]
    exact (hordered.trans (tells_setPort i _)).trans (tells_raise _ _ _)
  · rw [cut_of_not_present h]
    exact tells_same

/-! ### Rounds and passes -/

theorem tells_preemptWithdraw (bound fuel : Nat) :
    ∀ (need : Nat) (s : State), s.Tells (preemptWithdraw bound fuel need s).1 := by
  induction fuel with
  | zero => exact fun _ _ => tells_same
  | succ fuel ih =>
    intro need s
    unfold preemptWithdraw
    split
    · exact tells_same
    · split
      · exact tells_same
      · exact (tells_withdraw _ _).trans (ih _ _)

theorem preemptShed_ntc (bound fuel : Nat) : ∀ (need : Nat) (s : State), (preemptShed bound fuel need s).ntc = s.ntc := by
  induction fuel with
  | zero => exact fun _ _ => rfl
  | succ fuel ih =>
    intro need s
    unfold preemptShed
    split
    · rfl
    · split
      · rfl
      · exact (ih _ _).trans (issueShed_ntc _ _ _ _)

theorem tells_preemptRound (r : PreemptRecord) : s.Tells (preemptRound r s).1 :=
  (tells_preemptWithdraw _ _ _ _).trans (tells_same (preemptShed_ntc _ _ _ _))

theorem tells_passWalk (l : List QueueEntry) : ∀ s : State, s.Tells (passWalk l s).1 := by
  induction l with
  | nil => exact fun _ => tells_same
  | cons e rest ih =>
    intro s
    unfold passWalk
    cases s.passStep e with
    | full => exact tells_same
    | passed => exact ih s
    | taken amount => exact (tells_createOffer (s := s.leaveQueue e.slot e.tag) _ _ _).trans (ih _)
    | blocked => exact tells_same

theorem tells_handOff (e : QueueEntry) : s.Tells (handOff e s).1 := by
  unfold handOff
  split
  · split
    · exact tells_same
    · exact tells_preemptRound (s := { s.markRequested e with eng.record := some (s.requestFor e) }) _
  · exact tells_same

theorem tells_admissionPass (fuel : Nat) : ∀ s : State, s.Tells (admissionPass fuel s) := by
  induction fuel with
  | zero => exact fun _ => tells_same
  | succ fuel ih =>
    intro s
    have hwalk := tells_passWalk s.adm.queue s
    unfold admissionPass
    split
    · next hp => rwa [hp] at hwalk
    · next v e hp =>
      rw [hp] at hwalk
      have hhanded := hwalk.trans (tells_handOff e)
      split
      · next w hq =>
        rw [hq] at hhanded
        exact hhanded.trans (ih w)
      · next w hq => rwa [hq] at hhanded

theorem tells_runPass : s.Tells (runPass s) := tells_admissionPass _ s

theorem tells_budgetWithdraw (fuel : Nat) : ∀ s : State, s.Tells (budgetWithdraw fuel s).1 := by
  induction fuel with
  | zero => exact fun _ => tells_same
  | succ fuel ih =>
    intro s
    unfold budgetWithdraw
    split
    · exact tells_same
    · split
      · exact tells_same
      · exact (tells_withdraw _ _).trans (ih _)

theorem budgetShed_ntc (fuel : Nat) : ∀ s : State, (budgetShed fuel s).ntc = s.ntc := by
  induction fuel with
  | zero => exact fun _ => rfl
  | succ fuel ih =>
    intro s
    unfold budgetShed
    split
    · rfl
    · split
      · rfl
      · exact (ih _).trans (issueShed_ntc _ _ _ _)

theorem tells_budgetCut (fuel : Nat) : ∀ s : State, s.Tells (budgetCut fuel s).1 := by
  induction fuel with
  | zero => exact fun _ => tells_same
  | succ fuel ih =>
    intro s
    unfold budgetCut
    split
    · exact tells_same
    · split
      · exact tells_same
      · exact (tells_cut _ _).trans (ih _)

theorem tells_budgetActs (urgency : Urgency) : s.Tells (budgetActs urgency s).1 := by
  have hwithdrawn := tells_budgetWithdraw s.adm.contracts.length s
  cases urgency with
  | normal => exact hwithdrawn.trans (tells_same (budgetShed_ntc _ _))
  | immediate => exact hwithdrawn.trans (tells_budgetCut _ _)

theorem tells_budgetRound (urgency : Urgency) : s.Tells (budgetRound urgency s) := by
  unfold budgetRound
  dsimp only
  split
  · exact (tells_budgetActs urgency).trans tells_runPass
  · exact tells_budgetActs urgency

theorem tells_recheckIf (called : Bool) : s.Tells (recheckIf called s) := by
  unfold recheckIf
  split
  · exact tells_budgetRound .normal
  · exact tells_same

theorem tells_afterClose (wasShedding : Bool) : s.Tells (afterClose wasShedding s) :=
  tells_runPass.trans (tells_recheckIf wasShedding)

theorem tells_tearAndFollow (i : Slot) : s.Tells (tearAndFollow i s) := by
  unfold tearAndFollow
  split
  · exact tells_teardown i
  · exact (tells_teardown i).trans (tells_afterClose _)

theorem tells_cutAndFollow (i : Slot) (reason : CutReason) : s.Tells (cutAndFollow i reason s) := by
  unfold cutAndFollow
  split
  · exact (tells_cut i reason).trans (tells_afterClose _)
  · exact tells_cut i reason

theorem tells_requestOnChange (before : Nat) (urgency : Urgency) : s.Tells (requestOnChange before urgency s) := by
  unfold requestOnChange
  split
  · exact tells_budgetRound urgency
  · split
    · exact tells_runPass
    · exact tells_same

theorem tells_requestOnConfig (before : Nat) : s.Tells (requestOnConfig before s) := by
  unfold requestOnConfig
  split
  · exact tells_runPass.trans (tells_budgetRound .normal)
  · exact tells_budgetRound .normal

/-! ### The power frames -/

theorem tells_queueClaim (i : Slot) (g : Byte) (want least : Nat) : s.Tells (s.queueClaim i g want least) := by
  unfold State.queueClaim
  split
  · exact tells_same
  · split
    · exact tells_reply i _
    · next last _ =>
      split
      · have hdisplaced : s.Tells
            (((s.leaveQueue last.slot last.tag).refuse last.slot last.tag .displaced).placeClaim i g want least) :=
          tells_same
        exact hdisplaced.trans tells_runPass
      · exact tells_reply i _

theorem tells_takeClaim (i : Slot) (g : Byte) (want least : Nat) : s.Tells (takeClaim i g want least s) := by
  unfold takeClaim
  split
  · exact tells_reply i _
  · dsimp only
    split
    · exact tells_createOffer i g _
    · exact tells_queueClaim i g _ _

theorem tells_takeAccept (i : Slot) (g : Byte) : s.Tells (takeAccept i g s) := by
  unfold takeAccept
  split
  · exact tells_reply i _
  · split
    · exact tells_same
    · exact tells_reply i _

theorem tells_takeDecline (i : Slot) (g : Byte) : s.Tells (takeDecline i g s) := by
  unfold takeDecline
  split
  · exact tells_reply i _
  · split
    · exact ((tells_closeContract i g).trans (tells_reply i _)).trans tells_runPass
    · exact tells_reply i _

theorem tells_takeRelease (i : Slot) (g : Byte) : s.Tells (takeRelease i g s) := by
  unfold takeRelease
  split
  · exact ((tells_closeContract i g).trans (tells_reply i _)).trans (tells_afterClose _)
  · split
    · have hleft : s.Tells ((s.leaveQueue i g).reply i (.closed g .released)) := tells_same
      exact hleft.trans tells_runPass
    · exact tells_reply i _

/-- A contract's amount changes, and committed power with it. -/
def State.reweighed (s : State) (i : Slot) (g : Byte) (f : Contract → Contract) (committed : Nat) : State :=
  { s.onContract i g f with adm.committed := committed }

theorem tells_reweighed (i : Slot) (g : Byte) (f : Contract → Contract) (committed : Nat) :
    s.Tells (evalFlags (s.reweighed i g f committed)) := tells_evalFlags (s := s.reweighed i g f committed)

theorem tells_comply (i : Slot) (g : Byte) (c : Contract) (amount : Nat) : s.Tells (s.comply i g c amount) :=
  (tells_reweighed i g (Contract.complied amount) (s.adm.committed - (c.amount - amount))).trans tells_same

theorem tells_adjustHeld (i : Slot) (g : Byte) (c : Contract) (amount : Nat) : s.Tells (adjustHeld i g c amount s) := by
  unfold adjustHeld
  split
  · exact tells_reply i _
  · split
    · exact tells_reply i _
    · split
      · exact ((tells_reweighed i g _ _).trans (tells_reply i _)).trans tells_runPass
      · split
        · exact tells_reply i _
        · exact (tells_reweighed i g _ _).trans (tells_reply i _)

theorem tells_takeAdjust (i : Slot) (g : Byte) (asked : Nat) : s.Tells (takeAdjust i g asked s) := by
  unfold takeAdjust
  split
  · exact tells_reply i _
  · dsimp only
    split
    · exact tells_reply i _
    · split
      · exact tells_reply i _
      · exact tells_adjustHeld i g _ _
    · split
      · exact tells_reply i _
      · split
        · exact ((tells_comply i g _ _).trans (tells_reply i _)).trans (tells_afterClose true)
        · exact tells_reply i _

theorem tells_takeRenew (i : Slot) (g : Byte) : s.Tells (takeRenew i g s) := by
  unfold takeRenew
  split
  · exact tells_reply i _
  · split
    · exact tells_same
    · exact tells_reply i _

theorem tells_violate (i : Slot) (reason : CutReason) (detail : Nat) : s.Tells (violate i reason detail s) := by
  unfold violate
  dsimp only
  split
  · exact tells_raise _ _ _
  · exact (tells_raise _ _ _).trans (tells_cutAndFollow i reason)

theorem tells_onContract (i : Slot) (g : Byte) (f : Contract → Contract) : s.Tells (s.onContract i g f) := tells_same

theorem tells_judgeReport (i : Slot) (g : Byte) (measured : Nat) : s.Tells (judgeReport i g measured s) := by
  unfold judgeReport
  split
  · exact tells_same
  · dsimp only
    split
    · exact tells_onContract i g _
    · split
      · exact tells_onContract i g _
      · exact (tells_onContract i g _).trans (tells_violate i _ _)

theorem tells_takeReport (i : Slot) (g : Byte) (measured : Nat) : s.Tells (takeReport i g measured s) := by
  unfold takeReport
  split
  · exact tells_onPort i _
  · split
    · exact tells_onPort i _
    · exact tells_judgeReport i g measured
    · split
      · exact ((tells_comply i g _ _).trans (tells_afterClose true)).trans (tells_judgeReport i g measured)
      · exact tells_judgeReport i g measured

theorem tells_takeComply (i : Slot) (g : Byte) : s.Tells (takeComply i g s) := by
  unfold takeComply
  split
  · exact tells_reply i _
  · split
    · exact ((tells_comply i g _ _).trans (tells_reply i _)).trans (tells_afterClose true)
    · exact tells_reply i _
    · exact tells_reply i _

/-! ### The links and the other frames -/

theorem setReceiver_ntc (link : Link) (r : Receiver) : (s.setReceiver link r).ntc = s.ntc := by
  cases link <;> rfl

theorem countError_ntc (link : Link) (e : LinkError) : (s.countError link e).ntc = s.ntc := by
  cases link <;> cases e <;> rfl

theorem tells_hunt (link : Link) : s.Tells (s.hunt link) := tells_same (setReceiver_ntc link _)

theorem tells_linkError (link : Link) (e : LinkError) : s.Tells (s.linkError link e) :=
  (tells_same (countError_ntc link e)).trans (tells_raise _ _ _)

theorem tells_malformedFrame (link : Link) : s.Tells (malformedFrame link s) := by
  unfold malformedFrame
  split
  · exact (tells_hunt link).trans (tells_linkError link _)
  · exact tells_same

theorem tells_moduleFrame (i : Slot) {handle : State → State} (h : ∀ v : State, v.Tells (handle v)) :
    s.Tells (moduleFrame i handle s) := by
  unfold moduleFrame
  split
  · have hheard := tells_hunt (s := s) (.slot i)
    dsimp only
    split
    · exact hheard
    · exact hheard
    · exact hheard.trans (h _)
    all_goals exact (hheard.trans (tells_onPort i _)).trans (h _)
  · exact tells_same

theorem tells_supplyFrame {handle : State → State} (h : ∀ v : State, v.Tells (handle v)) :
    s.Tells (supplyFrame handle s) := by
  unfold supplyFrame
  split
  · exact (tells_hunt .supply).trans (h _)
  · exact tells_same

theorem tells_abandonFrame (link : Link) : s.Tells (abandonFrame link s) := by
  unfold abandonFrame
  split
  · split
    · exact tells_same
    · next d _ =>
      have hreached : s.Tells (s.reach d) := tells_same
      exact (hreached.trans (tells_hunt link)).trans (tells_linkError link _)
  · exact tells_same

theorem tells_dropForward (i : Slot) : s.Tells (s.dropForward i) := (tells_onPort i _).trans (tells_raise _ _ _)

theorem tells_takeData (i : Slot) (q : Byte) (payload : List Byte) : s.Tells (takeData i q payload s) := by
  unfold takeData
  split
  · exact tells_same
  · exact tells_dropForward i

theorem tells_takeDataDown (q slot : Byte) (payload : List Byte) : s.Tells (takeDataDown q slot payload s) := by
  unfold takeDataDown
  split
  · exact tells_linkError _ _
  · split
    · exact tells_onPort _ _
    · exact tells_dropForward _

theorem tells_announce (q : Byte) (amount : Nat) : s.Tells (s.announce q amount) := by
  unfold State.announce
  dsimp only
  split
  · exact .trans tells_same (tells_raise _ _ _)
  · exact tells_same

theorem tells_takeBudget (q : Byte) (amount : Nat) (urgency : Urgency) : s.Tells (takeBudget q amount urgency s) := by
  unfold takeBudget
  split
  · have hrequested := ((tells_announce (s := s) q amount).trans tells_recompute).trans
      (tells_requestOnChange s.bud.limit urgency)
    unfold immediateIfOver
    split
    · exact hrequested.trans (tells_budgetRound .immediate)
    · exact hrequested
  · exact tells_same

/-! ### The slots -/

theorem tells_enterKnown (i : Slot) (x : SlotState) (k : EventKind) : s.Tells (s.enterKnown i x k) := by
  have hentered : s.Tells ((s.onPort i fun p => { p with state := x }).evalEnable i) := tells_same
  exact hentered.trans (tells_raise k _ _)

theorem tells_enterVacant (i : Slot) (probe : Option Time) : s.Tells (s.enterVacant i probe) := tells_same

theorem tells_join (i : Slot) : s.Tells (s.join i) := by
  unfold State.join
  dsimp only
  split
  · exact (tells_onPort i _).trans (tells_enterKnown i _ _)
  · exact (tells_onPort i _).trans (tells_enterKnown i _ _)

theorem tells_takePresent (i : Slot) (d : Declared) : s.Tells (takePresent i d s) := by
  unfold takePresent
  split
  · refine (tells_hunt (.slot i)).trans ?_
    generalize s.hunt (.slot i) = v
    have hlived : v.Tells (v.proofOfLife i) := tells_onPort i _
    dsimp only
    split
    · exact tells_same
    · split
      · exact (tells_onPort i _).trans (tells_onPort i _)
      · exact tells_same
    · split
      · exact (tells_onPort i _).trans (tells_join i)
      · exact tells_same
    · exact hlived.trans (tells_onPort i _)
    · exact hlived.trans (tells_onPort i _)
    · have hdeclared : v.Tells ((v.proofOfLife i).declare i d) := hlived.trans (tells_onPort i _)
      split
      · exact hdeclared.trans (tells_enterKnown i _ _)
      · exact hdeclared
  · exact tells_same

theorem tells_expireProbe (i : Slot) : s.Tells (expireProbe i s) := by
  unfold expireProbe
  split
  · exact tells_same
  · next d _ =>
    split
    · have hprobed : s.Tells ((s.reach d).order i .probe) := tells_same
      exact hprobed.trans (tells_onPort i _)
    · exact tells_same

theorem tells_torn (i : Slot) : s.Tells ((tearAndFollow i (s.deassert i)).emptyQueues i) :=
  (tells_tearAndFollow (s := s.deassert i) i).trans (tells_onPort i _)

theorem tells_lose (i : Slot) : s.Tells (s.lose i) :=
  ((tells_torn i).trans (tells_enterVacant i _)).trans (tells_raise _ _ _)

theorem tells_closeWindow (i : Slot) : s.Tells (closeWindow i s) := by
  unfold closeWindow
  split
  · exact tells_onPort i _
  · exact tells_onPort i _
  · exact tells_enterVacant i _
  all_goals
    dsimp only
    split
    · exact (tells_onPort i _).trans (tells_lose i)
    · exact tells_onPort i _

theorem tells_expireAnswer (i : Slot) : s.Tells (expireAnswer i s) := by
  unfold expireAnswer
  split
  · exact tells_same
  · next d _ =>
    split
    · exact tells_closeWindow (s := s.reach d) i
    · exact tells_same

theorem tells_endPenalty (i : Slot) : s.Tells (endPenalty i s) := by
  unfold endPenalty
  split
  · exact tells_same
  · next d _ =>
    split
    · have hended : s.Tells ((s.reach d).onPort i fun p => { p with penaltyEnd := none }) := tells_same
      dsimp only
      split
      · exact hended.trans tells_same
      · exact hended.trans (tells_enterKnown i _ _)
    · exact tells_same

theorem tells_resetPort (i : Slot) : s.Tells (s.resetPort i) := by
  have hcleared := (tells_torn (s := s) i).trans (tells_onPort i SlotPort.restart)
  unfold State.resetPort
  dsimp only
  split
  · exact hcleared.trans (tells_enterVacant i _)
  · exact hcleared

/-! ### Expiries -/

theorem tells_expireContract (i : Slot) (g : Byte) (deadline? : Contract → Option Time)
    {act : Contract → State → State} (h : ∀ c (v : State), v.Tells (act c v)) :
    s.Tells (expireContract i g deadline? act s) := by
  unfold expireContract
  split
  · exact tells_same
  · next c _ =>
    split
    · exact tells_same
    · next d _ =>
      split
      · exact h c (s.reach d)
      · exact tells_same

theorem tells_closeUnaccepted (i : Slot) (g : Byte) : s.Tells (closeUnaccepted i g s) :=
  ((tells_closeContract i g).trans (tells_order i _)).trans tells_runPass

theorem tells_closeExpired (i : Slot) (g : Byte) (c : Contract) : s.Tells (closeExpired i g c s) :=
  ((tells_closeContract i g).trans (tells_order i _)).trans (tells_afterClose _)

theorem tells_takeSilence (i : Slot) (g : Byte) : s.Tells (takeSilence i g s) := by
  unfold takeSilence
  split
  · exact (tells_onContract i g _).trans (tells_violate i _ _)
  · exact tells_violate i _ _

theorem tells_expireWait (i : Slot) (g : Byte) : s.Tells (expireWait i g s) := by
  unfold expireWait
  split
  · exact tells_same
  · split
    · exact tells_same
    · next d _ =>
      split
      · have hleft : s.Tells (((s.reach d).leaveQueue i g).refuse i g .waitLimit) := tells_same
        exact (hleft.trans (tells_raise _ _ _)).trans tells_runPass
      · exact tells_same

theorem tells_expireStale : s.Tells (expireStale s) := by
  unfold expireStale
  split
  · exact tells_same
  · next d _ =>
    split
    · have hstale : s.Tells { s.reach d with bud.staleDeadline := none, bud.stale := true } := tells_same
      exact ((hstale.trans (tells_raise _ _ _)).trans tells_recompute).trans (tells_requestOnChange _ _)
    · exact tells_same

theorem tells_takeNoticeAck (q : Byte) : s.Tells (takeNoticeAck q s) := NoticeUnit.Act.tells (.acknowledge q)

theorem tells_expireRetransmit : s.Tells (expireRetransmit s) := by
  unfold expireRetransmit
  split
  · exact tells_same
  · next n hn =>
    split
    · exact tells_same
    · next d hd =>
      split
      · exact NoticeUnit.Act.tells (.expire _ hn hd)
      · exact tells_same

/-! ### The Profile Store and the transmitters -/

theorem tells_complete (p : Slot) (page : Page) (k : EventKind) : s.Tells (s.complete p page k) :=
  tells_raise (s := { s with store.op := none, store.pages := s.store.pages.set p page }) k _ _

theorem tells_completeErase : s.Tells (completeErase s) := by
  unfold completeErase
  split
  · exact tells_complete _ _ _
  all_goals exact tells_same

theorem tells_completeSave (asWritten : Bool) : s.Tells (completeSave asWritten s) := by
  unfold completeSave
  split
  · split
    · exact tells_complete _ _ _
    · exact tells_complete _ _ _
  all_goals exact tells_same

theorem tells_completeLoad : s.Tells (completeLoad s) := by
  unfold completeLoad
  split
  · next p _ =>
    have hdone : ∀ v : State, v.Tells (({ v with store.op := none } : State).raise .storeDone none p.val) := fun v =>
      tells_raise (s := { v with store.op := none }) _ _ _
    dsimp only
    split
    · next img _ =>
      have hplaced : s.Tells (placeLoaded img s) :=
        (tells_recompute (s := s.loading img)).trans (tells_requestOnConfig _)
      exact hplaced.trans (hdone _)
    · exact hdone s
    · exact hdone s
  all_goals exact tells_same

theorem tells_beginSlot (i : Slot) : s.Tells (beginSlot i s) := by
  unfold beginSlot
  split
  · split
    · exact tells_same
    · exact tells_setPort i _
  · exact tells_same

theorem tells_beginUpstream : s.Tells (beginUpstream s) := by
  unfold beginUpstream
  split
  · split
    · exact tells_same
    · split
      · exact tells_same
      · split
        · exact NoticeUnit.Act.tells .begin
        · split <;> exact tells_same
  · exact tells_same

theorem tells_endUpstream : s.Tells (endUpstream s) := by
  unfold endUpstream
  split
  · exact tells_same
  · dsimp only
    split
    · exact NoticeUnit.Act.tells (.complete _)
    · exact tells_same
    · exact tells_same

theorem tells_restarted (straps : BitVec 2) (asWritten : BitVec 8) : s.Tells (s.restarted straps asWritten) :=
  NoticeUnit.Act.tells .reset

theorem placeImage_ntc (choice : Option (Slot × Image)) : (placeImage choice s).ntc = s.ntc := by
  unfold placeImage
  split <;> rfl

theorem openSlots_ntc : (openSlots s).ntc = s.ntc := by
  obtain ⟨ports, hopened⟩ := openSlots_foldl_rest allSlots s
  have hslots : openSlots s = { s with ports := ports } := hopened
  rw [hslots]

theorem tells_endScan : s.Tells (endScan s) := by
  unfold endScan
  split
  · have hplaced : s.Tells { firstFigures (placeImage (choosePage s.store.pages) s) with part := .running } :=
      tells_same (placeImage_ntc _)
    exact (hplaced.trans (tells_same openSlots_ntc)).trans (tells_raise _ _ _)
  · exact tells_same

/-! ### A commit (R117) -/

theorem tells_closeForPolicy (i : Slot) : s.Tells (s.closeForPolicy i) := by
  have htold := tells_foldl (f := fun s (c : Contract) => s.order i (.closed c.tag .policy))
    (fun _ _ => tells_order i _) (s.contractsOf i) s
  have hrefused := tells_foldl (f := fun s (e : QueueEntry) => (s.leaveQueue i e.tag).refuse i e.tag .policy)
    (fun _ _ => tells_same) (s.claimsOf i)
  exact (htold.trans (hrefused _)).trans tells_same

theorem tells_disable (i : Slot) : s.Tells (s.disable i) := tells_same

theorem tells_alignSlot (old : Policy) (i : Slot) : s.Tells (alignSlot old i s) := by
  unfold alignSlot
  dsimp only
  split
  · exact tells_same
  · split
    · exact (tells_closeForPolicy i).trans (tells_disable i)
    · exact tells_disable i
    · exact tells_enterVacant i _
    · split
      · exact tells_same
      · exact (tells_closeForPolicy i).trans (tells_enterKnown i _ _)
    · split
      · exact tells_enterKnown i _ _
      · exact tells_same
    · exact tells_same

theorem tells_checkCeiling (c : Contract) : s.Tells (checkCeiling c s) := by
  unfold checkCeiling
  split
  · split
    · exact (tells_same (removeContract_ntc _ _)).trans (tells_order _ _)
    · exact tells_same (issueShed_ntc _ _ _ _)
    · exact tells_same
  · exact tells_same

theorem tells_checkEntry (e : QueueEntry) : s.Tells (checkEntry e s) := by
  unfold checkEntry
  split <;> exact tells_same

theorem tells_commitChecks (old : Vector Policy 8) : s.Tells (commitChecks old s) :=
  ((tells_foldl (fun _ i => tells_alignSlot (old.get i) i) allSlots s).trans
    (tells_foldl (fun _ c => tells_checkCeiling c) _ _)).trans (tells_foldl (fun _ e => tells_checkEntry e) _ _)

theorem tells_commitStages : s.Tells (commitStages s) := by
  rw [commitStages_eq]
  have hrebuilt : s.Tells (commitChecks s.pol.active s.swapped).rebuildQueue :=
    (tells_commitChecks (s := s.swapped) s.pol.active).trans tells_same
  exact ((hrebuilt.trans tells_evalFlags).trans tells_runPass).trans (tells_budgetRound .normal)

/-! ### The management commands -/

theorem tells_runCommit : s.Tells (runCommit s).1 := by
  unfold runCommit acked
  split
  · dsimp only
    exact tells_commitStages
  · exact tells_same

theorem tells_runReadEntry (table index : Byte) : s.Tells (runReadEntry table index s).1 := by
  unfold runReadEntry naked
  split
  · exact tells_same
  · split <;> exact tells_same

theorem tells_runWritePolicy (slot : Byte) (record : List Byte) : s.Tells (runWritePolicy slot record s).1 := by
  unfold runWritePolicy naked acked
  split
  · exact tells_same
  · split <;> exact tells_same

theorem tells_configEffect (item : ConfigItem) : s.Tells (configEffect item s) := by
  have hfigures : s.Tells (requestOnConfig s.bud.limit (recompute s)) := tells_recompute.trans (tells_requestOnConfig _)
  have hmarks : s.Tells (newMarks s) := tells_evalWatermark (s := { s with bud := workOutMarks s.bud s.pol.items })
  cases item with
  | budgetCap => exact hfigures
  | safeBudget => exact hfigures
  | reserve => exact hfigures
  | highMark => exact hmarks
  | lowMark => exact hmarks
  | _ => exact tells_same

theorem tells_runSetConfig (item : Byte) (body : List Byte) : s.Tells (runSetConfig item body s).1 := by
  unfold runSetConfig naked acked
  split
  · exact tells_same
  · next it items _ => exact tells_configEffect (s := { s with pol.items := items }) it

theorem tells_runClearEvents (count : Byte) (kinds : List Byte) : s.Tells (runClearEvents count kinds s).1 := by
  unfold runClearEvents naked acked
  split
  · exact tells_same
  · split
    · exact tells_same
    · exact NoticeUnit.Act.tells (.clear _)

theorem tells_runForceShed (slot g : Byte) (target : Nat) : s.Tells (runForceShed slot g target s).1 := by
  unfold runForceShed naked acked
  split
  · exact tells_same
  · split
    · exact tells_same
    · split
      · exact tells_same
      · split
        · exact tells_same
        · exact tells_same (issueShed_ntc _ _ _ _)

theorem tells_runForceClose (slot g : Byte) : s.Tells (runForceClose slot g s).1 := by
  unfold runForceClose naked acked
  split
  · exact tells_same
  · split
    · exact tells_same
    · exact ((tells_closeContract _ _).trans (tells_order _ _)).trans (tells_afterClose _)

theorem tells_runForceCut (slot : Byte) : s.Tells (runForceCut slot s).1 := by
  unfold runForceCut naked acked
  split
  · exact tells_same
  · split
    · exact tells_cutAndFollow _ _
    · exact tells_same

theorem tells_runPortReset (slot : Byte) : s.Tells (runPortReset slot s).1 := by
  unfold runPortReset naked acked
  split
  · exact tells_same
  · exact tells_resetPort _

theorem tells_runRestart : s.Tells (runRestart s).1 := by
  unfold runRestart naked acked
  split <;> exact tells_same

theorem tells_storeCommand (page : Byte) {own : Slot → State → State × Settle}
    (h : ∀ p : Slot, s.Tells (own p s).1) : s.Tells (storeCommand page own s).1 := by
  unfold storeCommand naked
  split
  · exact tells_same
  · split
    · exact tells_same
    · exact h _

theorem tells_ownErase (p : Slot) : s.Tells (ownErase p s).1 := by
  unfold ownErase naked acked
  split <;> exact tells_same

theorem tells_ownSave (p : Slot) : s.Tells (ownSave p s).1 := by
  unfold ownSave naked acked
  (repeat' split) <;> exact tells_same

theorem tells_ownLoad (p : Slot) : s.Tells (ownLoad p s).1 := by
  unfold ownLoad naked acked
  split <;> exact tells_same

/-- R129: what a command tells the Notice Unit is what its run tells. -/
theorem tells_takeCommand (q : Byte) {run : State → State × Settle} (h : ∀ v : State, v.Tells (run v).1) :
    s.Tells (takeCommand q run s) := by
  refine tells_supplyFrame fun v => ?_
  split
  · exact tells_same
  · unfold answerCommand
    split
    · exact tells_same
    · exact (h v).trans tells_same

/-! ### Every command -/

theorem tells_takeFrame (c : Instr) : s.Tells (takeFrame c s) := by
  cases c with
  | claim i g want least => exact tells_moduleFrame i fun _ => tells_takeClaim i g _ _
  | accept i g => exact tells_moduleFrame i fun _ => tells_takeAccept i g
  | decline i g => exact tells_moduleFrame i fun _ => tells_takeDecline i g
  | release i g => exact tells_moduleFrame i fun _ => tells_takeRelease i g
  | adjust i g amount => exact tells_moduleFrame i fun _ => tells_takeAdjust i g _
  | renew i g => exact tells_moduleFrame i fun _ => tells_takeRenew i g
  | report i g measured => exact tells_moduleFrame i fun _ => tells_takeReport i g _
  | comply i g => exact tells_moduleFrame i fun _ => tells_takeComply i g
  | present i cls peak => exact tells_takePresent i _
  | data i q payload => exact tells_moduleFrame i fun _ => tells_takeData i q payload
  | budget q amount urgency => exact tells_supplyFrame fun _ => tells_takeBudget q _ urgency
  | noticeAck q => exact tells_supplyFrame fun _ => tells_takeNoticeAck q
  | dataDown q slot payload => exact tells_supplyFrame fun _ => tells_takeDataDown q slot payload
  | queryStatus q => exact tells_takeCommand q fun _ => tells_same
  | readEntry q table index => exact tells_takeCommand q fun _ => tells_runReadEntry table index
  | writePolicy q slot record => exact tells_takeCommand q fun _ => tells_runWritePolicy slot record
  | discard q => exact tells_takeCommand q fun _ => tells_same
  | commit q => exact tells_takeCommand q fun _ => tells_runCommit
  | setConfig q item body => exact tells_takeCommand q fun _ => tells_runSetConfig item body
  | clearEvents q count kinds => exact tells_takeCommand q fun _ => tells_runClearEvents count kinds
  | forceShed q slot g target => exact tells_takeCommand q fun _ => tells_runForceShed slot g _
  | forceClose q slot g => exact tells_takeCommand q fun _ => tells_runForceClose slot g
  | forceCut q slot => exact tells_takeCommand q fun _ => tells_runForceCut slot
  | portReset q slot => exact tells_takeCommand q fun _ => tells_runPortReset slot
  | storeErase q page => exact tells_takeCommand q fun _ => tells_storeCommand page tells_ownErase
  | storeSave q page => exact tells_takeCommand q fun _ => tells_storeCommand page tells_ownSave
  | storeLoad q page => exact tells_takeCommand q fun _ => tells_storeCommand page tells_ownLoad
  | restart q => exact tells_takeCommand q fun _ => tells_runRestart
  | _ => exact tells_same

theorem tells_receiveOn (link : Link) (b : Byte) : s.Tells (receiveOn link s b) := by
  unfold receiveOn
  split
  · dsimp only
    generalize hr : s.setReceiver link _ = heard
    have hheard : s.Tells heard := hr ▸ tells_same (setReceiver_ntc link _)
    split
    · exact hheard
    · refine hheard.trans ?_
      unfold takeVerdict
      split
      · exact tells_takeFrame _
      · exact tells_same
      · exact tells_linkError link _
  · exact tells_same

/-- Every command: what it does to the Notice Unit. -/
theorem tells_exec (c : Instr) (h : exec c s = .next t) : s.Tells t := by
  have htell : ∀ {v : State}, s.Tells v → (Host.Outcome.next v : Out) = .next t → s.Tells t := by
    rintro v hv ⟨⟩
    exact hv
  have hframe : ∀ d : Instr, (Host.Outcome.next (takeFrame d s) : Out) = .next t → s.Tells t := fun d =>
    htell (tells_takeFrame d)
  have hform : ∀ (d : Instr) (link : Link) {f : Prop} [Decidable f],
      (Host.Outcome.next (if f then takeFrame d s else malformedFrame link s) : Out) = .next t → s.Tells t := by
    rintro d link f _ ⟨⟩
    split
    · exact tells_takeFrame d
    · exact tells_malformedFrame link
  cases c with
  | claim i g want least => exact hframe (.claim i g want least) h
  | accept i g => exact hframe (.accept i g) h
  | decline i g => exact hframe (.decline i g) h
  | release i g => exact hframe (.release i g) h
  | adjust i g amount => exact hframe (.adjust i g amount) h
  | renew i g => exact hframe (.renew i g) h
  | report i g measured => exact hframe (.report i g measured) h
  | comply i g => exact hframe (.comply i g) h
  | present i cls peak => exact hframe (.present i cls peak) h
  | data i q payload => exact hform (.data i q payload) _ h
  | frameReceiveError link bytes => exact htell (tells_foldl (fun _ => tells_receiveOn link) bytes s) h
  | byteGapTimeout link => exact htell (tells_abandonFrame link) h
  | budget q amount urgency => exact hframe (.budget q amount urgency) h
  | noticeAck q => exact hframe (.noticeAck q) h
  | dataDown q slot payload => exact hform (.dataDown q slot payload) _ h
  | queryStatus q => exact hframe (.queryStatus q) h
  | readEntry q table index => exact hframe (.readEntry q table index) h
  | writePolicy q slot record => exact hform (.writePolicy q slot record) _ h
  | discard q => exact hframe (.discard q) h
  | commit q => exact hframe (.commit q) h
  | setConfig q item body => exact hform (.setConfig q item body) _ h
  | clearEvents q count kinds => exact hform (.clearEvents q count kinds) _ h
  | forceShed q slot g target => exact hframe (.forceShed q slot g target) h
  | forceClose q slot g => exact hframe (.forceClose q slot g) h
  | forceCut q slot => exact hframe (.forceCut q slot) h
  | portReset q slot => exact hframe (.portReset q slot) h
  | storeErase q page => exact hframe (.storeErase q page) h
  | storeSave q page => exact hframe (.storeSave q page) h
  | storeLoad q page => exact hframe (.storeLoad q page) h
  | restart q => exact hframe (.restart q) h
  | offerDeadline i g => exact htell (tells_expireContract i g _ fun _ _ => tells_closeUnaccepted i g) h
  | leaseExpiry i g => exact htell (tells_expireContract i g _ fun c _ => tells_closeExpired i g c) h
  | waitDeadline i g => exact htell (tells_expireWait i g) h
  | staleDeadline => exact htell tells_expireStale h
  | shedDeadline i g => exact htell (tells_expireContract i g _ fun _ _ => tells_cutAndFollow i _) h
  | reportDeadline i g => exact htell (tells_expireContract i g _ fun _ _ => tells_takeSilence i g) h
  | penaltyEndTime i => exact htell (tells_endPenalty i) h
  | probeDeadline i => exact htell (tells_expireProbe i) h
  | answerDeadline i => exact htell (tells_expireAnswer i) h
  | retransmitDeadline => exact htell tells_expireRetransmit h
  | storeEraseCompletion => exact htell tells_completeErase h
  | storeSaveCompletion asWritten => exact htell (tells_completeSave asWritten) h
  | storeLoadCompletion => exact htell tells_completeLoad h
  | slotTransmissionBegin i => exact htell (tells_beginSlot i) h
  | slotTransmissionSent i => exact htell (tells_onPort i _) h
  | upstreamTransmissionBegin => exact htell tells_beginUpstream h
  | upstreamTransmissionSent => exact htell tells_endUpstream h
  | restartTakesEffect straps asWritten =>
    cases h
    split
    · exact tells_restarted straps asWritten
    · exact tells_same
  | hardReset straps asWritten => exact htell (tells_restarted straps asWritten) h
  | startUpScanEnd => exact htell tells_endScan h

/-- Settles O9: a step is a chain of the Notice Unit's changes, each of which keeps the laws of its queue. -/
theorem noticesStayOrdered : Obligations.NoticesStayOrdered := by
  intro s t hs hstep
  unfold step at hstep
  split at hstep
  · cases hstep
    exact hs
  · next c rest _ => exact (tells_exec (s := { s with pending := rest }) c hstep).ordered hs

end Sys2Proof.Machine

/-!
# The profile store and the start-up

Every command but a reset and the scan's end leaves the part state as it is and keeps the laws of the Profile Store
(`State.Secures`); while STARTING, it leaves everything as it is (`exec_of_starting`). What the commands do to
contracts, slots and figures plays no part in the two laws that follow.
-/

namespace Sys2Proof.Machine

-- The theorems are checked one after another: side by side, each would hold a thread of its own while it waits.
set_option Elab.async false

open Config

variable {s t u : State}

/-! ## Pages and generations (R158, R160) -/

/-- R158: no two VALID pages have one generation, said with the generation. -/
theorem distinctGenerations_iff {generation? : Slot → Option Nat} :
    (∀ p q, p ≠ q → generation? p ≠ none → generation? p ≠ generation? q) ↔
      ∀ p q g, generation? p = some g → generation? q = some g → p = q := by
  constructor
  · intro h p q g hp hq
    by_contra hpq
    exact h p q hpq (by simp [hp]) (hp.trans hq.symm)
  · intro h p q hpq hp he
    obtain ⟨g, hg⟩ := Option.ne_none_iff_exists'.1 hp
    exact hpq (h p q g hg (he ▸ hg))

/-- R160: the next generation is above that of every VALID page. -/
theorem lt_nextGeneration {pages : Vector Page 8} {p : Slot} {g : Nat} (h : (pages.get p).generation? = some g) :
    g < nextGeneration pages := by
  have hmem := mem_generations.2 ⟨p, h⟩
  unfold nextGeneration
  cases hg : greatestGeneration pages with
  | none =>
    rw [List.max?_eq_none_iff.1 hg] at hmem
    simp at hmem
  | some m =>
    obtain ⟨-, hmax⟩ := List.max?_eq_some_iff.1 hg
    exact Nat.lt_succ_of_le (hmax g hmem)

theorem saveSound_save_iff {p : Slot} {img : Image} : s.saveSound (.save p img) = true ↔
    s.page p = .blank ∧ img.intact = true ∧ ∀ r g, (s.page r).generation? = some g → g < img.generation := by
  have hpages : (s.store.pages.toList.all fun q => q.generation?.all fun g => decide (g < img.generation)) = true ↔
      ∀ r g, (s.page r).generation? = some g → g < img.generation := by
    simp only [List.all_eq_true, Vector.mem_toList_iff, Vector.mem_iff_getElem, Option.all_eq_true, decide_eq_true_eq]
    constructor
    · exact fun h r => h _ ⟨r.val, r.isLt, rfl⟩
    · rintro h _ ⟨n, hn, rfl⟩
      exact h ⟨n, hn⟩
  simp only [State.saveSound, Bool.and_eq_true, beq_iff_eq, hpages, and_assoc]

/-! ## The store's laws (R156, R158, R160) -/

/-- The laws speak of the pages and of the operation in progress alone. -/
theorem State.StoreHolds.of_store (h : s.StoreHolds) (hpages : t.store.pages = s.store.pages := by rfl)
    (hop : t.store.op = s.store.op := by rfl) : t.StoreHolds := by
  have hpage : t.page = s.page := by
    unfold State.page
    rw [hpages]
  have hsave : t.saveSound = s.saveSound := by
    funext op
    cases op with
    | save p img => rw [Bool.eq_iff_iff, saveSound_save_iff, saveSound_save_iff, hpage]
    | _ => rfl
  unfold State.StoreHolds
  rw [hpage, hsave, hop]
  exact h

/-- Pages that are as they were or DAMAGED, with no operation in progress. -/
theorem State.StoreHolds.of_worn (h : s.StoreHolds) (hpages : ∀ p, t.page p = s.page p ∨ t.page p = .damaged)
    (hop : t.store.op = none) : t.StoreHolds := by
  obtain ⟨hzero, -, hdistinct, hintact⟩ := h
  have hgeneration : ∀ p g, (t.page p).generation? = some g → (s.page p).generation? = some g := by
    intro p g hg
    rcases hpages p with hp | hp
    · rwa [← hp]
    · simp [hp, Page.generation?] at hg
  refine ⟨?_, by simp [hop], distinctGenerations_iff.2 fun p q g hp hq => ?_, fun p => ?_⟩
  · rcases hpages 0 with hp | hp
    · rwa [hp]
    · simp [hp]
  · exact distinctGenerations_iff.1 hdistinct p q g (hgeneration p g hp) (hgeneration q g hq)
  · rcases hpages p with hp | hp
    · exact hp ▸ hintact p
    · rw [hp]
      rfl

/-- An operation that starts leaves the pages as they are (R159, R160, R162). -/
theorem storeHolds_start (h : s.StoreHolds) {op : StoreOp} (htarget : op.target? ≠ some 0)
    (hsound : s.saveSound op = true) : (s.start op).StoreHolds := by
  obtain ⟨hzero, -, hdistinct, hintact⟩ := h
  refine ⟨hzero, fun op' hop => ?_, hdistinct, hintact⟩
  obtain rfl : op = op' := Option.some.inj hop
  exact ⟨htarget, hsound⟩

theorem page_complete (p r : Slot) (page : Page) (k : EventKind) :
    (s.complete p page k).page r = if r = p then page else s.page r := by
  show (s.store.pages.set p.val page).get r = _
  split
  · next hr => rw [hr, get_set_self]
  · next hr => exact get_set_other _ _ hr

/-- R159, R161: an operation on another page than 0 ends, and its page takes an intact image of a new generation or
none. -/
theorem storeHolds_complete (h : s.StoreHolds) {p : Slot} {page : Page} (k : EventKind) (hp : p ≠ 0)
    (hpage : page.intact = true) (hnew : ∀ r g, page.generation? = some g → (s.page r).generation? ≠ some g) :
    (s.complete p page k).StoreHolds := by
  obtain ⟨hzero, -, hdistinct, hintact⟩ := h
  have hidle : (s.complete p page k).store.op = none := rfl
  refine ⟨?_, by simp [hidle], distinctGenerations_iff.2 fun q r g hq hr => ?_, fun r => ?_⟩
  · rwa [page_complete, if_neg hp.symm]
  · rw [page_complete] at hq hr
    split at hq <;> split at hr
    · next hqp hrp => exact hqp.trans hrp.symm
    · exact absurd hr (hnew r g hq)
    · exact absurd hq (hnew q g hr)
    · exact distinctGenerations_iff.1 hdistinct q r g hq hr
  · rw [page_complete]
    split
    · exact hpage
    · exact hintact r

theorem scan_worn (asWritten : Bool) (page : Page) : page.scan asWritten = page ∨ page.scan asWritten = .damaged := by
  unfold Page.scan
  split
  · split
    · exact .inl rfl
    · exact .inr rfl
  · exact .inl rfl
  · exact .inl rfl

/-- R163, R165: a reset leaves each page as it is or DAMAGED. -/
theorem storeHolds_restarted (h : s.StoreHolds) (straps : BitVec 2) (asWritten : BitVec 8) :
    (s.restarted straps asWritten).StoreHolds := by
  refine h.of_worn (fun p => ?_) rfl
  rw [page_restarted, get_interruptStore]
  split
  · exact .inr rfl
  · exact scan_worn _ (s.page p)

/-- R166: the scan's end puts a page's records and items in force, in a RUNNING part. -/
theorem endScan_eq_scanned (h : s.part = .starting) :
    ∃ records items page, endScan s = s.scanned records items page := by
  cases hc : choosePage s.store.pages with
  | none => exact ⟨_, _, _, endScan_of_none h hc⟩
  | some choice => exact ⟨_, _, _, endScan_of_some h hc⟩

theorem endScan_part (h : s.part = .starting) : (endScan s).part = .running := by
  obtain ⟨records, items, page, hscan⟩ := endScan_eq_scanned h
  obtain ⟨ports, hrest⟩ := scanned_rest s records items page
  rw [hscan, hrest, raise_part]

theorem storeHolds_endScan (h : s.StoreHolds) : (endScan s).StoreHolds := by
  by_cases hpart : s.part = .starting
  · obtain ⟨records, items, page, hscan⟩ := endScan_eq_scanned hpart
    obtain ⟨ports, hrest⟩ := scanned_rest s records items page
    rw [hscan, hrest]
    exact h.of_store
  · rwa [endScan, if_neg hpart]

/-! ## Changes that leave the part state and keep the store's laws -/

/-- A change that leaves the part state as it is and keeps the laws of the store. -/
structure State.Secures (s t : State) : Prop where
  part : t.part = s.part
  holds : s.StoreHolds → t.StoreHolds

theorem State.Secures.refl (s : State) : s.Secures s := ⟨rfl, id⟩

theorem State.Secures.trans (h : s.Secures t) (k : t.Secures u) : s.Secures u :=
  ⟨k.part.trans h.part, k.holds ∘ h.holds⟩

/-- A change of neither; `rfl` says so where the state is replaced field by field. -/
theorem secures_same (hpart : t.part = s.part := by rfl) (hstore : t.store = s.store := by rfl) : s.Secures t :=
  ⟨hpart, fun h => h.of_store (by rw [hstore]) (by rw [hstore])⟩

theorem State.Kept.secures (h : s.Kept t) : s.Secures t := secures_same h.part h.store

/-! ### The links -/

theorem secures_setReceiver (link : Link) (r : Receiver) : s.Secures (s.setReceiver link r) := by
  cases link <;> exact secures_same

theorem secures_hunt (link : Link) : s.Secures (s.hunt link) := secures_setReceiver link _

theorem secures_linkError (link : Link) (e : LinkError) : s.Secures (s.linkError link e) := by
  cases link <;> cases e <;> exact secures_same

theorem secures_malformedFrame (link : Link) : s.Secures (malformedFrame link s) := by
  unfold malformedFrame
  split
  · exact (secures_hunt link).trans (secures_linkError link _)
  · exact .refl s

theorem secures_abandonFrame (link : Link) : s.Secures (abandonFrame link s) := by
  unfold abandonFrame
  split
  · split
    · exact .refl s
    · next d _ =>
      have hreached : s.Secures (s.reach d) := secures_same
      exact (hreached.trans (secures_hunt link)).trans (secures_linkError link _)
  · exact .refl s

theorem secures_moduleFrame (i : Slot) {handle : State → State} (h : ∀ v : State, v.Secures (handle v)) :
    s.Secures (moduleFrame i handle s) := by
  unfold moduleFrame
  split
  · have hhunt : s.Secures (s.hunt (.slot i)) := secures_hunt _
    have hlived : s.Secures ((s.hunt (.slot i)).proofOfLife i) := hhunt.trans secures_same
    dsimp only
    split
    · exact hhunt
    · exact hhunt
    · exact hhunt.trans (h _)
    all_goals exact hlived.trans (h _)
  · exact .refl s

theorem secures_supplyFrame {handle : State → State} (h : ∀ v : State, v.Secures (handle v)) :
    s.Secures (supplyFrame handle s) := by
  unfold supplyFrame
  split
  · exact (secures_hunt .supply).trans (h _)
  · exact .refl s

/-! ### Frames that are no commands -/

theorem secures_takePresent (i : Slot) (d : Declared) : s.Secures (takePresent i d s) := by
  unfold takePresent
  split
  · refine (secures_hunt (.slot i)).trans ?_
    generalize s.hunt (.slot i) = v
    have hdeclared : v.Secures (v.declare i d) := secures_same
    dsimp only
    split
    · exact .refl v
    · split <;> exact secures_same
    · split
      · exact hdeclared.trans (kept_join i).secures
      · exact secures_same
    · exact secures_same
    · exact secures_same
    · split <;> exact secures_same
  · exact .refl s

theorem secures_takeData (i : Slot) (q : Byte) (payload : List Byte) : s.Secures (takeData i q payload s) := by
  unfold takeData
  split <;> exact secures_same

theorem secures_takeDataDown (q slot : Byte) (payload : List Byte) : s.Secures (takeDataDown q slot payload s) := by
  unfold takeDataDown
  split
  · exact secures_linkError .supply _
  · split <;> exact secures_same

theorem secures_recompute : s.Secures (recompute s) := secures_same kept_evalFlags.part kept_evalFlags.store

theorem secures_takeBudget (q : Byte) (amount : Nat) (urgency : Urgency) :
    s.Secures (takeBudget q amount urgency s) := by
  have hannounced : s.Secures (s.announce q amount) := by
    unfold State.announce
    dsimp only
    split <;> exact secures_same
  unfold takeBudget
  split
  · have hasked := (hannounced.trans secures_recompute).trans (kept_requestOnChange s.bud.limit urgency).secures
    unfold immediateIfOver
    split
    · exact hasked.trans (kept_budgetRound .immediate).secures
    · exact hasked
  · exact .refl s

/-! ### Expiries and the transmitters -/

theorem secures_expireContract (i : Slot) (g : Byte) (deadline? : Contract → Option Time)
    {act : Contract → State → State} (h : ∀ c (v : State), v.Secures (act c v)) :
    s.Secures (expireContract i g deadline? act s) := by
  unfold expireContract
  split
  · exact .refl s
  · next c _ =>
    split
    · exact .refl s
    · next d _ =>
      have hreached : s.Secures (s.reach d) := secures_same
      split
      · exact hreached.trans (h c _)
      · exact .refl s

theorem secures_expireWait (i : Slot) (g : Byte) : s.Secures (expireWait i g s) := by
  unfold expireWait
  split
  · exact .refl s
  · split
    · exact .refl s
    · split
      · exact secures_same kept_runPass.part kept_runPass.store
      · exact .refl s

theorem secures_expireStale : s.Secures (expireStale s) := by
  unfold expireStale
  split
  · exact .refl s
  · next d _ =>
    split
    · have hstale : s.Secures (({ s.reach d with bud.staleDeadline := none, bud.stale := true } : State).raise
          .budgetStale none (min s.pol.items.budgetCap s.pol.items.safeBudget)) := secures_same
      exact (hstale.trans secures_recompute).trans (kept_requestOnChange _ _).secures
    · exact .refl s

theorem secures_endPenalty (i : Slot) : s.Secures (endPenalty i s) := by
  unfold endPenalty
  split
  · exact .refl s
  · split
    · dsimp only
      split <;> exact secures_same
    · exact .refl s

theorem secures_expireProbe (i : Slot) : s.Secures (expireProbe i s) := by
  unfold expireProbe
  split
  · exact .refl s
  · split <;> exact secures_same

theorem secures_expireAnswer (i : Slot) : s.Secures (expireAnswer i s) := by
  unfold expireAnswer
  split
  · exact .refl s
  · next d _ =>
    have hreached : s.Secures (s.reach d) := secures_same
    split
    · exact hreached.trans (kept_closeWindow i).secures
    · exact .refl s

theorem secures_expireRetransmit : s.Secures (expireRetransmit s) := by
  unfold expireRetransmit
  split
  · exact .refl s
  · split
    · exact .refl s
    · split <;> exact secures_same

theorem secures_beginSlot (i : Slot) : s.Secures (beginSlot i s) := by
  unfold beginSlot
  split
  · split <;> exact secures_same
  · exact .refl s

theorem secures_beginUpstream : s.Secures (beginUpstream s) := by
  unfold beginUpstream
  (repeat' split) <;> exact secures_same

theorem secures_endUpstream : s.Secures (endUpstream s) := by
  unfold endUpstream
  (repeat' split) <;> exact secures_same

/-! ### The store commands and their completions (R143, R159 to R162) -/

theorem secures_storeCommand (page : Byte) {own : Slot → State → State × Settle}
    (hown : ∀ p (v : State), v.Secures (own p v).1) : s.Secures (storeCommand page own s).1 := by
  unfold storeCommand naked
  split
  · exact .refl s
  · split
    · exact .refl s
    · exact hown _ s

theorem secures_ownErase (p : Slot) : s.Secures (ownErase p s).1 := by
  unfold ownErase naked acked
  split
  · exact .refl s
  · next hp => exact ⟨rfl, fun h => storeHolds_start h (mt Option.some.inj hp) rfl⟩

/-- R160: the image captured for a BLANK page is stamped with a generation above every other one. -/
theorem secures_ownSave (p : Slot) : s.Secures (ownSave p s).1 := by
  unfold ownSave naked acked
  split
  · exact .refl s
  · next hp =>
    split
    · exact .refl s
    · next hblank =>
      split
      · exact .refl s
      · exact ⟨rfl, fun h => storeHolds_start h (mt Option.some.inj hp)
          (saveSound_save_iff.2 ⟨not_not.1 hblank, intact_stamped _ _ _, fun _ _ => lt_nextGeneration⟩)⟩

theorem secures_ownLoad (p : Slot) : s.Secures (ownLoad p s).1 := by
  unfold ownLoad naked acked
  split
  · exact ⟨rfl, fun h => storeHolds_start h (fun hp => nomatch hp) rfl⟩
  · exact .refl s
  · exact .refl s

theorem secures_completeErase : s.Secures (completeErase s) := by
  unfold completeErase
  split
  · next p hop =>
    refine ⟨rfl, fun h => ?_⟩
    have ⟨_, hops, _, _⟩ := h
    obtain ⟨htarget, -⟩ := hops _ hop
    exact storeHolds_complete h _ (fun hp => htarget (congrArg some hp)) rfl fun _ _ hg => nomatch hg
  all_goals exact .refl s

theorem secures_completeSave (asWritten : Bool) : s.Secures (completeSave asWritten s) := by
  unfold completeSave
  split
  · next p img hop =>
    refine ⟨by split <;> exact complete_part .., fun h => ?_⟩
    have ⟨_, hops, _, _⟩ := h
    obtain ⟨htarget, hsave⟩ := hops _ hop
    obtain ⟨-, hintact, hgreatest⟩ := saveSound_save_iff.1 hsave
    have hp : p ≠ 0 := fun hp => htarget (congrArg some hp)
    split
    · refine storeHolds_complete h _ hp hintact fun r g hg hr => ?_
      obtain rfl : img.generation = g := Option.some.inj hg
      exact lt_irrefl _ (hgreatest r _ hr)
    · exact storeHolds_complete h _ hp rfl fun _ _ hg => nomatch hg
  all_goals exact .refl s

theorem secures_completeLoad : s.Secures (completeLoad s) := by
  have hend : ∀ (p : Slot) (v : State),
      v.Secures (({ v with store.op := none } : State).raise .storeDone none p.val) := fun p v =>
    ⟨rfl, fun h => h.of_worn (fun _ => .inl rfl) rfl⟩
  unfold completeLoad
  split
  · next p _ =>
    dsimp only
    split
    · next img _ =>
      have hloading : s.Secures (s.loading img) := secures_same
      have hplaced : s.Secures (placeLoaded img s) :=
        (hloading.trans secures_recompute).trans (kept_requestOnConfig s.bud.limit).secures
      exact hplaced.trans (hend p _)
    · exact hend p s
    · exact hend p s
  all_goals exact .refl s

/-! ### The other management commands -/

theorem secures_takeCommand (q : Byte) {run : State → State × Settle} (hrun : ∀ v : State, v.Secures (run v).1) :
    s.Secures (takeCommand q run s) := by
  refine secures_supplyFrame fun v => ?_
  split
  · exact .refl v
  · unfold answerCommand
    split
    · exact secures_same
    · exact (hrun v).trans secures_same

theorem secures_runReadEntry (table index : Byte) : s.Secures (runReadEntry table index s).1 := by
  unfold runReadEntry naked
  (repeat' split) <;> exact .refl s

theorem secures_runWritePolicy (slot : Byte) (record : List Byte) : s.Secures (runWritePolicy slot record s).1 := by
  unfold runWritePolicy naked acked
  split
  · exact .refl s
  · split <;> exact secures_same

theorem secures_runCommit : s.Secures (runCommit s).1 := by
  have hswapped : s.Secures s.swapped := secures_same
  unfold runCommit acked
  split
  · dsimp only
    exact hswapped.trans kept_commitStages.secures
  · exact .refl s

theorem secures_configEffect (it : ConfigItem) : s.Secures (configEffect it s) := by
  have hfigures : s.Secures (requestOnConfig s.bud.limit (recompute s)) :=
    secures_recompute.trans (kept_requestOnConfig _).secures
  have hmarks : s.Secures (newMarks s) := secures_same kept_evalWatermark.part kept_evalWatermark.store
  cases it with
  | budgetCap => exact hfigures
  | safeBudget => exact hfigures
  | reserve => exact hfigures
  | highMark => exact hmarks
  | lowMark => exact hmarks
  | _ => exact .refl s

theorem secures_runSetConfig (item : Byte) (body : List Byte) : s.Secures (runSetConfig item body s).1 := by
  unfold runSetConfig naked acked
  split
  · exact .refl s
  · next it items _ =>
    have hput : s.Secures { s with pol.items := items } := secures_same
    exact hput.trans (secures_configEffect it)

theorem secures_runClearEvents (count : Byte) (kinds : List Byte) : s.Secures (runClearEvents count kinds s).1 := by
  unfold runClearEvents naked acked
  split
  · exact .refl s
  · split <;> exact secures_same

theorem secures_runForceShed (slot g : Byte) (target : Nat) : s.Secures (runForceShed slot g target s).1 := by
  unfold runForceShed naked acked
  split
  · exact .refl s
  · split
    · exact .refl s
    · split
      · exact .refl s
      · split
        · exact .refl s
        · exact (kept_issueShed _ _ _ _).secures

theorem secures_runForceClose (slot g : Byte) : s.Secures (runForceClose slot g s).1 := by
  unfold runForceClose naked acked
  split
  · exact .refl s
  · split
    · exact .refl s
    · exact (((kept_closeContract _ _).trans (kept_order _ _)).trans (kept_afterClose _)).secures

theorem secures_runForceCut (slot : Byte) : s.Secures (runForceCut slot s).1 := by
  unfold runForceCut naked acked
  split
  · exact .refl s
  · split
    · exact (kept_cutAndFollow _ _).secures
    · exact .refl s

theorem secures_runPortReset (slot : Byte) : s.Secures (runPortReset slot s).1 := by
  unfold runPortReset naked acked
  split
  · exact .refl s
  · exact (kept_resetPort _).secures

theorem secures_runRestart : s.Secures (runRestart s).1 := by
  unfold runRestart naked acked
  split <;> exact secures_same

/-! ## Every command -/

theorem secures_takeFrame (c : Instr) : s.Secures (takeFrame c s) := by
  cases c with
  | claim i g want least => exact secures_moduleFrame i fun _ => (kept_takeClaim i g _ _).secures
  | accept i g => exact secures_moduleFrame i fun _ => (kept_takeAccept i g).secures
  | decline i g => exact secures_moduleFrame i fun _ => (kept_takeDecline i g).secures
  | release i g => exact secures_moduleFrame i fun _ => (kept_takeRelease i g).secures
  | adjust i g amount => exact secures_moduleFrame i fun _ => (kept_takeAdjust i g _).secures
  | renew i g => exact secures_moduleFrame i fun _ => (kept_takeRenew i g).secures
  | report i g measured => exact secures_moduleFrame i fun _ => (kept_takeReport i g _).secures
  | comply i g => exact secures_moduleFrame i fun _ => (kept_takeComply i g).secures
  | present i cls peak => exact secures_takePresent i _
  | data i q payload => exact secures_moduleFrame i fun _ => secures_takeData i q payload
  | budget q amount urgency => exact secures_supplyFrame fun _ => secures_takeBudget q _ urgency
  | noticeAck q => exact secures_supplyFrame fun _ => secures_same
  | dataDown q slot payload => exact secures_supplyFrame fun _ => secures_takeDataDown q slot payload
  | queryStatus q => exact secures_takeCommand q fun v => .refl v
  | readEntry q table index => exact secures_takeCommand q fun _ => secures_runReadEntry table index
  | writePolicy q slot record => exact secures_takeCommand q fun _ => secures_runWritePolicy slot record
  | discard q => exact secures_takeCommand q fun _ => secures_same
  | commit q => exact secures_takeCommand q fun _ => secures_runCommit
  | setConfig q item body => exact secures_takeCommand q fun _ => secures_runSetConfig item body
  | clearEvents q count kinds => exact secures_takeCommand q fun _ => secures_runClearEvents count kinds
  | forceShed q slot g target => exact secures_takeCommand q fun _ => secures_runForceShed slot g _
  | forceClose q slot g => exact secures_takeCommand q fun _ => secures_runForceClose slot g
  | forceCut q slot => exact secures_takeCommand q fun _ => secures_runForceCut slot
  | portReset q slot => exact secures_takeCommand q fun _ => secures_runPortReset slot
  | storeErase q page => exact secures_takeCommand q fun _ => secures_storeCommand page fun p _ => secures_ownErase p
  | storeSave q page => exact secures_takeCommand q fun _ => secures_storeCommand page fun p _ => secures_ownSave p
  | storeLoad q page => exact secures_takeCommand q fun _ => secures_storeCommand page fun p _ => secures_ownLoad p
  | restart q => exact secures_takeCommand q fun _ => secures_runRestart
  | _ => exact .refl s

theorem secures_receiveOn (link : Link) (b : Byte) : s.Secures (receiveOn link s b) := by
  unfold receiveOn
  split
  · dsimp only
    generalize hr : s.setReceiver link _ = heard
    have hheard : s.Secures heard := hr ▸ secures_setReceiver link _
    split
    · exact hheard
    · unfold takeVerdict
      split
      · exact hheard.trans (secures_takeFrame _)
      · exact hheard
      · exact hheard.trans (secures_linkError link _)
  · exact .refl s

theorem secures_receiveAll (link : Link) (bytes : List Byte) :
    ∀ s : State, s.Secures (bytes.foldl (receiveOn link) s) := by
  induction bytes with
  | nil => exact fun s => .refl s
  | cons b r ih => exact fun s => (secures_receiveOn link b).trans (ih _)

/-- What a command can do to the part state and the store: it leaves the one and keeps the laws of the other, or it is a
reset or the scan's end. -/
theorem exec_secures (c : Instr) (h : exec c s = .next t) :
    s.Secures t ∨ (∃ straps asWritten, t = s.restarted straps asWritten) ∨ t = endScan s := by
  have hkeep : ∀ {v : State}, s.Secures v → (Host.Outcome.next v : Out) = .next t → s.Secures t := by
    rintro v hv ⟨⟩
    exact hv
  by_cases hc : carrierOf c = none
  case neg =>
    rcases exec_of_carrier (s := s) hc with hframe | ⟨link, hmalformed⟩
    · exact .inl (hkeep (secures_takeFrame c) (hframe.symm.trans h))
    · exact .inl (hkeep (secures_malformedFrame link) (hmalformed.symm.trans h))
  case pos =>
    cases c with
    | frameReceiveError link bytes => exact .inl (hkeep (secures_receiveAll link bytes s) h)
    | byteGapTimeout link => exact .inl (hkeep (secures_abandonFrame link) h)
    | offerDeadline i g =>
      exact .inl (hkeep (secures_expireContract i g _ fun _ _ => (kept_closeUnaccepted i g).secures) h)
    | leaseExpiry i g =>
      exact .inl (hkeep (secures_expireContract i g _ fun c _ => (kept_closeExpired i g c).secures) h)
    | waitDeadline i g => exact .inl (hkeep (secures_expireWait i g) h)
    | staleDeadline => exact .inl (hkeep secures_expireStale h)
    | shedDeadline i g =>
      exact .inl (hkeep (secures_expireContract i g _ fun _ _ => (kept_cutAndFollow i _).secures) h)
    | reportDeadline i g =>
      exact .inl (hkeep (secures_expireContract i g _ fun _ _ => (kept_takeSilence i g).secures) h)
    | penaltyEndTime i => exact .inl (hkeep (secures_endPenalty i) h)
    | probeDeadline i => exact .inl (hkeep (secures_expireProbe i) h)
    | answerDeadline i => exact .inl (hkeep (secures_expireAnswer i) h)
    | retransmitDeadline => exact .inl (hkeep secures_expireRetransmit h)
    | storeEraseCompletion => exact .inl (hkeep secures_completeErase h)
    | storeSaveCompletion asWritten => exact .inl (hkeep (secures_completeSave asWritten) h)
    | storeLoadCompletion => exact .inl (hkeep secures_completeLoad h)
    | slotTransmissionBegin i => exact .inl (hkeep (secures_beginSlot i) h)
    | slotTransmissionSent i => exact .inl (hkeep (kept_onPort i _).secures h)
    | upstreamTransmissionBegin => exact .inl (hkeep secures_beginUpstream h)
    | upstreamTransmissionSent => exact .inl (hkeep secures_endUpstream h)
    | restartTakesEffect straps asWritten =>
      cases h
      split
      · exact .inr (.inl ⟨straps, asWritten, rfl⟩)
      · exact .inl (.refl s)
    | hardReset straps asWritten =>
      cases h
      exact .inr (.inl ⟨straps, asWritten, rfl⟩)
    | startUpScanEnd =>
      cases h
      exact .inr (.inr rfl)
    | _ => nomatch hc

theorem storeHolds_exec (hs : s.StoreHolds) (c : Instr) (h : exec c s = .next t) : t.StoreHolds := by
  rcases exec_secures c h with hsecures | ⟨straps, asWritten, rfl⟩ | rfl
  · exact hsecures.holds hs
  · exact storeHolds_restarted hs straps asWritten
  · exact storeHolds_endScan hs

/-- Settles O10: pages and operations change by the store's own commands, their completions and a reset alone. -/
theorem storeStaysSound : Obligations.StoreStaysSound := by
  intro s t hs hstep
  unfold step at hstep
  split at hstep
  · cases hstep
    exact hs.of_store
  · next c rest _ => exact storeHolds_exec (s := { s with pending := rest }) hs.of_store c hstep

/-! ## The part while STARTING (R165) -/

/-- R141, R165: while STARTING and in a restart wait no frame is taken. -/
theorem takeFrame_of_inactive (h : s.active = false) (c : Instr) : takeFrame c s = s := by
  have hmodule : ∀ (i : Slot) (handle : State → State), moduleFrame i handle s = s := fun i _ =>
    moduleFrame_of_not_receives (receives_eq_false h)
  cases c with
  | present i cls peak => exact takePresent_of_not_receives (receives_eq_false h)
  | claim i | accept i | decline i | release i | adjust i | renew i | report i | comply i | data i => exact hmodule i _
  | budget | noticeAck | dataDown => exact supplyFrame_of_inactive h
  | queryStatus | readEntry | writePolicy | discard | commit | setConfig | clearEvents | forceShed | forceClose
  | forceCut | portReset | storeErase | storeSave | storeLoad | restart => exact takeCommand_of_inactive h
  | _ => rfl

/-- While STARTING a command finds nothing to act on, but for a reset and the scan's end: no frame is taken, no timer
runs, and no operation or transmission is in progress. -/
theorem exec_of_starting (hclean : s.StartsClean) (hpart : s.part = .starting) (c : Instr) (h : exec c s = .next t) :
    t = s ∨ (∃ straps asWritten, t = s.restarted straps asWritten) ∨ t = endScan s := by
  have hstays : ∀ {v : State}, v = s → (Host.Outcome.next v : Out) = .next t → t = s := by
    rintro v hv ⟨⟩
    exact hv
  have ha : s.active = false := by simp [State.active, hpart]
  obtain ⟨hports, hsupply, -, -, -, hman, -, hop, -⟩ := hclean hpart
  by_cases hc : carrierOf c = none
  case neg =>
    rcases exec_of_carrier (s := s) hc with hframe | ⟨link, hmalformed⟩
    · exact .inl (hstays (takeFrame_of_inactive ha c) (hframe.symm.trans h))
    · exact .inl (hstays (malformedFrame_of_not_receives (receives_eq_false ha)) (hmalformed.symm.trans h))
  case pos =>
    cases c with
    | frameReceiveError link bytes => exact .inl (hstays (receiveAll_of_not_receives (receives_eq_false ha) bytes) h)
    | byteGapTimeout link => exact .inl (hstays (abandonFrame_of_not_receives (receives_eq_false ha)) h)
    | offerDeadline | leaseExpiry | shedDeadline | reportDeadline =>
      exact .inl (hstays (expireContract_of_inactive ha) h)
    | waitDeadline => exact .inl (hstays (expireWait_of_inactive ha) h)
    | staleDeadline => exact .inl (hstays (expireStale_of_inactive ha) h)
    | penaltyEndTime => exact .inl (hstays (endPenalty_of_nothing (.inl ha)) h)
    | probeDeadline => exact .inl (hstays (expireProbe_of_nothing (.inl ha)) h)
    | answerDeadline => exact .inl (hstays (expireAnswer_of_nothing (.inl ha)) h)
    | retransmitDeadline => exact .inl (hstays (expireRetransmit_of_inactive ha) h)
    | storeEraseCompletion => exact .inl (hstays (completeErase_of_no_erase (by simp [hop])) h)
    | storeSaveCompletion => exact .inl (hstays (completeSave_of_no_save (by simp [hop])) h)
    | storeLoadCompletion => exact .inl (hstays (completeLoad_of_no_load (by simp [hop])) h)
    | slotTransmissionBegin => exact .inl (hstays (if_neg (by simp [ha])) h)
    | slotTransmissionSent i => exact .inl (hstays (endSlot_of_idle (by rw [hports i]; rfl)) h)
    | upstreamTransmissionBegin => exact .inl (hstays (if_neg (by simp [hpart])) h)
    | upstreamTransmissionSent => exact .inl (hstays (endUpstream_of_idle (by rw [hsupply]; rfl)) h)
    | restartTakesEffect => exact .inl (hstays (if_neg (by simp [State.restartDue, hman, resetManagement])) h)
    | hardReset straps asWritten =>
      cases h
      exact .inr (.inl ⟨straps, asWritten, rfl⟩)
    | startUpScanEnd =>
      cases h
      exact .inr (.inr rfl)
    | _ => nomatch hc

theorem startsClean_exec (hclean : s.StartsClean) (c : Instr) (h : exec c s = .next t) : t.StartsClean := by
  by_cases hpart : s.part = .starting
  · rcases exec_of_starting hclean hpart c h with rfl | ⟨straps, asWritten, rfl⟩ | rfl
    · exact hclean
    · exact startsClean_restarted s straps asWritten
    · intro hstarting
      exact absurd ((endScan_part hpart).symm.trans hstarting) (by simp)
  · rcases exec_secures c h with hsecures | ⟨straps, asWritten, rfl⟩ | rfl
    · exact fun hstarting => absurd (hsecures.part.symm.trans hstarting) hpart
    · exact startsClean_restarted s straps asWritten
    · rwa [endScan, if_neg hpart]

/-- Settles O3: a part becomes STARTING by a reset alone, and until the scan's end or another reset no command finds
anything to act on. -/
theorem startingStaysClean : Obligations.StartingStaysClean := by
  intro s t hclean hstep
  unfold step at hstep
  split at hstep
  · cases hstep
    exact hclean
  · next c rest _ => exact startsClean_exec (s := { s with pending := rest }) hclean c hstep

end Sys2Proof.Machine

/-!
# Pass-through traffic and the upstream arbiter

What becomes of a DATA or a DATA_DOWN frame, and what the supply link's transmitter sends. Of the notices only the
oldest record, the SENT one, can be offered or in transmission, so the arbiter's search ends at the head of the queue.
-/

namespace Sys2Proof.Machine

-- The theorems are checked one after another: side by side, each would hold a thread of its own while it waits.
set_option Elab.async false

open Config

variable {s : State} {i : Slot}

/-! ## DATA and DATA_DOWN (R169 to R172) -/

section Traffic

variable {seq slot : Byte} {payload : List Byte}

theorem relays_iff : s.relays i = true ↔ s.relayed i := by simp [State.relays, State.relayed]

/-- The test of a frame to be relayed: its slot relays and its queue has a place. -/
theorem relays_and_lt_iff {used places : Nat} :
    (s.relays i && decide (used < places)) = true ↔ s.relayed i ∧ used < places := by
  rw [Bool.and_eq_true, relays_iff, decide_eq_true_iff]

theorem relayed_onHearing : (s.onHearing i).relayed i ↔ s.relayed i := by
  rw [State.relayed, port_onHearing, heard_state]
  rfl

/-- The count after the rise is what FORWARD_DROP tells (R170, R172). -/
theorem dropForward_eq : s.dropForward i =
    (s.setPort i { s.port i with forwardDrops := countUp (s.port i).forwardDrops }).raise
      .forwardDrop (some (.slot i)) (countUp (s.port i).forwardDrops) := by
  simp [State.dropForward, State.onPort]

/-- A drop on a port that has just been replaced. -/
theorem dropForward_setPort (p : SlotPort) : (s.setPort i p).dropForward i =
    (s.setPort i { p with forwardDrops := countUp p.forwardDrops }).raise
      .forwardDrop (some (.slot i)) (countUp p.forwardDrops) := by
  rw [dropForward_eq, port_setPort_self, setPort_setPort]

theorem takeData_of_relayed (h : s.relayed i ∧ s.forward.length < 32) :
    takeData i seq payload s = { s with forward := s.forward ++ [⟨i, seq, payload⟩] } :=
  if_pos (relays_and_lt_iff.2 h)

theorem takeData_of_not_relayed (h : ¬ (s.relayed i ∧ s.forward.length < 32)) :
    takeData i seq payload s = s.dropForward i :=
  if_neg (mt relays_and_lt_iff.1 h)

theorem takeDataDown_of_relayed (hi : slotOf? slot = some i) (h : s.relayed i ∧ (s.port i).downstream.length < 4) :
    takeDataDown seq slot payload s =
      s.setPort i { s.port i with downstream := (s.port i).downstream ++ [⟨seq, payload⟩] } := by
  simp only [takeDataDown, hi]
  exact if_pos (relays_and_lt_iff.2 h)

theorem takeDataDown_of_not_relayed (hi : slotOf? slot = some i)
    (h : ¬ (s.relayed i ∧ (s.port i).downstream.length < 4)) : takeDataDown seq slot payload s = s.dropForward i := by
  simp only [takeDataDown, hi]
  exact if_neg (mt relays_and_lt_iff.1 h)

theorem takeDataDown_of_no_slot (h : slotOf? slot = none) :
    takeDataDown seq slot payload s = s.linkError .supply .framing := by
  simp only [takeDataDown, h]

/-- A receive error after which the receiver hunts (R176, R179). -/
theorem linkError_hunt (link : Link) (e : LinkError) : (s.hunt link).linkError link e = s.withError link e := by
  cases link with
  | slot i =>
    cases e <;>
      simp [State.linkError, State.withError, State.hunt, State.setReceiver, State.countError, State.onPort,
        Link.origin, LinkError.code]
  | supply => cases e <;> rfl

theorem exec_data (hl : payload.length ≤ 31) (h : s.hands i) :
    exec (.data i seq payload) s = .next (takeData i seq payload (s.onHearing i)) :=
  congrArg _ ((if_pos hl).trans (moduleFrame_of_hands h))

theorem exec_dataDown (hl : payload.length ≤ 31) (h : s.active = true) :
    exec (.dataDown seq slot payload) s = .next (takeDataDown seq slot payload s.onSupply) :=
  congrArg _ ((if_pos hl).trans (supplyFrame_of_active h))

theorem slotOf?_of_eq (h : slot.toNat = i.val) : slotOf? slot = some i :=
  (slotOf?_of_lt (h ▸ i.isLt)).trans (congrArg some (Fin.ext h))

/-- Settles O57: the frame reaches the Forwarding Unit in the state in which it was heard, and what the unit looks at
there is as it was before. -/
theorem trafficIsRelayedOrDropped : Obligations.TrafficIsRelayedOrDropped := by
  intro s i seq slot payload hlength dropped p
  refine ⟨fun hands => ?_, fun hactive hslot => ?_, fun hactive hslot => ?_⟩
  · rw [exec_data hlength hands]
    refine ⟨fun h => ?_, fun h => ?_⟩ <;> rw [← relayed_onHearing] at h
    · exact congrArg _ (takeData_of_relayed h)
    · exact congrArg _ ((takeData_of_not_relayed h).trans (dropForward_setPort (s.heard i)))
  · rw [exec_dataDown hlength hactive]
    have hi := slotOf?_of_eq hslot
    exact ⟨fun h => congrArg _ (takeDataDown_of_relayed (s := s.onSupply) hi h),
      fun h => congrArg _ ((takeDataDown_of_not_relayed (s := s.onSupply) hi h).trans dropForward_eq)⟩
  · have hnone := slotOf?_of_not_lt (Nat.not_lt.2 hslot)
    rw [exec_dataDown hlength hactive, takeDataDown_of_no_slot hnone]
    exact congrArg _ (linkError_hunt .supply .framing)

end Traffic

/-! ## The upstream arbiter (R141, R152, R173) -/

section Upstream

variable {n : Notice} {rest : List Notice}

theorem state_of_isWaiting (h : n.isWaiting = true) : n.state = .waiting := by
  unfold Notice.isWaiting at h
  split at h
  · assumption
  · cases h

/-- All records behind the oldest wait (R152). -/
theorem waiting_of_queue (hs : s.NoticesOrdered) (hq : s.ntc.queue = n :: rest) : ∀ m ∈ rest, m.isWaiting = true := by
  have htail := (noticesOrdered_iff.1 hs).lined.tail
  rwa [hq] at htail

/-- Where the oldest record is not offered, none is. -/
theorem find?_isOffered_cons (hn : n.isOffered = false) (hrest : ∀ m ∈ rest, m.isWaiting = true) :
    (n :: rest).find? Notice.isOffered = none := by
  have hnone : ∀ m ∈ rest, m.isOffered = false := fun m hm => by
    simp [Notice.isOffered, state_of_isWaiting (hrest m hm)]
  simpa [hn] using hnone

/-- The end of a transmission is the oldest record's alone (R152). -/
theorem map_endSend_cons (hrest : ∀ m ∈ rest, m.isWaiting = true) (d : Time) :
    (n :: rest).map (Notice.endSend d) = n.endSend d :: rest := by
  have hsame : ∀ m ∈ rest, m.endSend d = m := fun m hm => by
    simp only [Notice.endSend, state_of_isWaiting (hrest m hm)]
  rw [List.map_cons, List.map_congr_left hsame, List.map_id']

theorem beginUpstream_of_busy (h : s.supply.transmission ≠ none) : beginUpstream s = s := if_neg fun hb => h hb.2

section Idle

variable (hrun : s.part = .running) (hidle : s.supply.transmission = none)

include hrun hidle

theorem beginUpstream_answer {a : Answer} {rest : List Answer} (ha : s.man.answers = a :: rest) :
    beginUpstream s = { s.transmit (.answer a) with man.answers := rest } := by
  rw [beginUpstream, if_pos ⟨hrun, hidle⟩, ha]

theorem beginUpstream_of_wait (ha : s.man.answers = []) (hw : s.man.restartWait = true) : beginUpstream s = s := by
  rw [beginUpstream, if_pos ⟨hrun, hidle⟩, ha]
  exact if_pos hw

theorem beginUpstream_notice (ha : s.man.answers = []) (hw : s.man.restartWait = false) {sends : Nat}
    (hq : s.ntc.queue = n :: rest) (hst : n.state = .sent sends .offered) :
    beginUpstream s =
      { s.transmit (.notice { n with state := .sent (sends + 1) .transmitting }) with
        ntc.queue := { n with state := .sent (sends + 1) .transmitting } :: rest } := by
  have hoffered : n.isOffered = true := by simp [Notice.isOffered, hst]
  have hbegin : n.beginSend = { n with state := .sent (sends + 1) .transmitting } := by
    simp only [Notice.beginSend, hst]
  rw [beginUpstream, if_pos ⟨hrun, hidle⟩, ha]
  simp [hw, hq, hoffered, modifyFirst, hbegin]

theorem beginUpstream_dataUp (ha : s.man.answers = []) (hw : s.man.restartWait = false)
    (hq : s.ntc.queue.find? Notice.isOffered = none) {d : DataUp} {rest : List DataUp} (hf : s.forward = d :: rest) :
    beginUpstream s = { s.transmit (.dataUp d) with forward := rest } := by
  rw [beginUpstream, if_pos ⟨hrun, hidle⟩, ha]
  simp [hw, hq, hf]

theorem beginUpstream_of_nothing (ha : s.man.answers = []) (hq : s.ntc.queue.find? Notice.isOffered = none)
    (hf : s.forward = []) : beginUpstream s = s := by
  rw [beginUpstream, if_pos ⟨hrun, hidle⟩, ha]
  simp [hq, hf]

end Idle

/-- The last bit of any frame but a NOTICE leaves the transmitter idle (R173). -/
theorem endUpstream_other {x : UpTransmission} (hx : s.supply.transmission = some x)
    (hframe : ∀ m, x.frame ≠ .notice m) : endUpstream s = { s with supply.transmission := none } := by
  simp only [endUpstream, hx]
  split
  · next m hm => exact absurd hm (hframe m)
  · rfl
  · rfl

section Notice

variable {x : UpTransmission} {m : Notice} (hx : s.supply.transmission = some x) (hframe : x.frame = .notice m)

include hx hframe

theorem endUpstream_notice : endUpstream s =
    { s with
      supply.transmission := none
      ntc.queue := s.ntc.queue.map (Notice.endSend (s.now + 100)) } := by
  simp only [endUpstream, hx, hframe]
  rfl

/-- The record in transmission gets its retransmit deadline (R152). -/
theorem endUpstream_transmitting (hq : s.ntc.queue = n :: rest) (hrest : ∀ m ∈ rest, m.isWaiting = true) {sends : Nat}
    (hst : n.state = .sent sends .transmitting) : endUpstream s =
      { s with
        supply.transmission := none
        ntc.queue := { n with state := .sent sends (.awaiting (s.now + 100)) } :: rest } := by
  have hend : n.endSend (s.now + 100) = { n with state := .sent sends (.awaiting (s.now + 100)) } := by
    simp only [Notice.endSend, hst]
  rw [endUpstream_notice hx hframe, hq, map_endSend_cons hrest, hend]

/-- A record acknowledged during its transmission has left the queue, and no other is in transmission (R154). -/
theorem endUpstream_of_map_endSend (hsame : s.ntc.queue.map (Notice.endSend (s.now + 100)) = s.ntc.queue) :
    endUpstream s = { s with supply.transmission := none } := by
  rw [endUpstream_notice hx hframe, hsame]

end Notice

/-- Settles O60: the arbiter's choice case by case, with the bytes of the frame of each kind; a transmission's end
finds the record that was sent at the head of the queue. -/
theorem supplyLinkSendsInPrecedence : Obligations.SupplyLinkSendsInPrecedence := by
  intro s hrun hs gives sending two frame reason answer kind origin notice dataUp others
  have hframe : ∀ k seq payload,
      formFrame managerAddress (partAddress s.straps) k seq payload = frame k seq payload := fun _ _ _ => rfl
  clear_value frame
  have hreason : ∀ r : NakReason, byteOf r.code = reason r := fun r => by cases r <;> rfl
  have hkind : ∀ k : EventKind, byteOf k.code = kind k := fun k => by cases k <;> rfl
  have horigin : ∀ o : Option Origin, byteOf (originCode o) = origin o := fun o => by
    match o with
    | none | some .supply | some (.slot _) => rfl
  have hanswer : ∀ a : Answer, UpFrame.bytes s.straps (.answer a) = answer a := fun ⟨seq, settle⟩ => by
    refine (hframe 0x70 seq _).trans ?_
    cases settle with
    | ack data => rfl
    | nak r => exact congrArg (fun b => frame 0x70 seq [1, b]) (hreason r)
  have hnotice : ∀ n : Notice, UpFrame.bytes s.straps (.notice n) = notice n := fun n => by
    refine (hframe 0x71 n.seq n.payload).trans ?_
    rw [Notice.payload, hkind, horigin]
    rfl
  have hdataUp : ∀ d : DataUp, UpFrame.bytes s.straps (.dataUp d) = dataUp d := fun d => hframe _ _ _
  have hexec : ∀ {t : State}, beginUpstream s = t → gives t := fun h => congrArg _ h
  refine ⟨fun hbusy => hexec (beginUpstream_of_busy hbusy), fun hidle => ?_, fun x hx => ?_⟩
  · split
    · next a rest ha =>
      rw [← hanswer a]
      exact hexec (beginUpstream_answer hrun hidle ha)
    next ha =>
    split
    · next hw => exact hexec (beginUpstream_of_wait hrun hidle ha hw)
    next hw =>
    have hw : s.man.restartWait = false := by simpa using hw
    have hothers : s.ntc.queue.find? Notice.isOffered = none → others := fun hq => by
      unfold others
      split
      · next hf => exact hexec (beginUpstream_of_nothing hrun hidle ha hq hf)
      · next d rest hf =>
        rw [← hdataUp d]
        exact hexec (beginUpstream_dataUp hrun hidle ha hw hq hf)
    split
    · next hq => exact hothers (by rw [hq]; rfl)
    next n rest hq =>
    have hquiet : n.isOffered = false → others := fun hn =>
      hothers (by rw [hq, find?_isOffered_cons hn (waiting_of_queue hs hq)])
    split
    · next sends hst =>
      rw [← hnotice n]
      exact hexec (beginUpstream_notice hrun hidle ha hw hq hst)
    all_goals next hst => exact hquiet (by simp [Notice.isOffered, hst])
  · intro idle
    refine congrArg Host.Outcome.next ?_
    split
    · next m n rest hframe hq =>
      have hrest := waiting_of_queue hs hq
      have hsame : n.endSend (s.now + 100) = n → endUpstream s = idle := fun hn =>
        endUpstream_of_map_endSend hx hframe (by rw [hq, map_endSend_cons hrest, hn])
      split
      · next sends hst => exact endUpstream_transmitting hx hframe hq hrest hst
      all_goals next hst => exact hsame (by simp only [Notice.endSend, hst])
    · next m hframe hq => exact endUpstream_of_map_endSend hx hframe (by rw [hq]; rfl)
    · next hframe => exact endUpstream_other hx (by simp [hframe])
    · next hframe => exact endUpstream_other hx (by simp [hframe])

end Upstream

end Sys2Proof.Machine

/-!
# Bytes on a link

What a receiver makes of a run of bytes, and what the part makes of it. A whole frame is the bytes up to its first CRC
byte, which the receiver only collects, and a last byte, whose verdict is that of the frame's checks. A command that the
kind table gives is well formed and of the frame's own link, so an accepted frame does what its command's row does.
-/

namespace Sys2Proof.Machine

-- The theorems are checked one after another: side by side, each would hold a thread of its own while it waits.
set_option Elab.async false

open Config

variable {s : State} {link : Link}

/-- Settles O1. -/
theorem stepRunsFrontCommand : Obligations.StepRunsFrontCommand := fun _ _ _ => rfl

/-! ## The receiver (R176, R177) -/

section Receiver

variable {straps : BitVec 2} {x len : Byte} {dst src kind seq c1 c0 : Byte} {payload rest : List Byte}

theorem receiveBytes_append (first second : List Byte) : ∀ got, receiveBytes straps link got (first ++ second) =
    let r := receiveBytes straps link got first
    ((receiveBytes straps link r.1 second).1, r.2 ++ (receiveBytes straps link r.1 second).2) := by
  induction first with
  | nil => intro got; rfl
  | cons b rest ih => intro got; simp [receiveBytes, ih]

theorem receiveByte_of_lt {mid : List Byte} (b : Byte) (h : mid.length < len.toNat + 1) :
    receiveByte straps link (x :: len :: mid) b = (x :: len :: (mid ++ [b]), none) := by
  have hne : (x :: len :: mid ++ [b]).length ≠ len.toNat + 4 := by
    simp only [List.length_append, List.length_cons, List.length_nil]
    omega
  exact if_neg hne

theorem receiveByte_of_eq {mid : List Byte} (b : Byte) (h : mid.length = len.toNat + 1) :
    receiveByte straps link (x :: len :: mid) b = ([], some (checkFrame straps link (x :: len :: (mid ++ [b])))) := by
  have heq : (x :: len :: mid ++ [b]).length = len.toNat + 4 := by
    simp only [List.length_append, List.length_cons, List.length_nil]
    omega
  exact if_pos heq

/-- The bytes after LEN are collected until the frame has but one byte to come. -/
theorem receiveBytes_of_lt : ∀ {mid : List Byte}, mid.length + rest.length < len.toNat + 2 →
    receiveBytes straps link (x :: len :: mid) rest = (x :: len :: (mid ++ rest), []) := by
  induction rest with
  | nil => intro mid _; simp [receiveBytes]
  | cons b rest ih =>
    intro mid h
    rw [List.length_cons] at h
    have htail := ih (mid := mid ++ [b]) (by simp only [List.length_append, List.length_singleton]; omega)
    rw [List.append_assoc, List.singleton_append] at htail
    simp only [receiveBytes, receiveByte_of_lt b (by omega : mid.length < len.toNat + 1), htail]
    rfl

/-- A frame that begins with a LEN in range is collected until it has but one byte to come. -/
theorem receiveBytes_of_begun (hlow : 4 ≤ len.toNat) (hhigh : len.toNat ≤ 36) (h : rest.length < len.toNat + 2) :
    receiveBytes straps link [] (sync :: len :: rest) = (sync :: len :: rest, []) := by
  have hsync : receiveByte straps link [] sync = ([sync], none) := rfl
  have hlen : receiveByte straps link [sync] len = ([sync, len], none) := by
    have hrange : ¬ (decide (len.toNat < 4) || decide (36 < len.toNat)) = true := by simp; omega
    exact if_neg hrange
  have hrest : receiveBytes straps link [sync, len] rest = (sync :: len :: rest, []) :=
    receiveBytes_of_lt (by rw [List.length_nil]; omega)
  simp only [receiveBytes, hsync, hlen, hrest]
  rfl

theorem toNat_len (hp : payload.length ≤ 32) : (byteOf (payload.length + 4)).toNat = payload.length + 4 :=
  toNat_byteOf (by omega)

/-- The verdict on a complete frame with these CRC bytes (R177, R178). -/
def verdictOn (straps : BitVec 2) (link : Link) (dst src kind seq : Byte) (payload : List Byte) (c1 c0 : Byte) :
    Verdict :=
  if [c1, c0] = bytes2 (crc16 (frameBody dst src kind seq payload)).toNat then
    checkHeader straps link dst src kind seq payload
  else .failed .crc

theorem verdictOn_of_ne (hne : [c1, c0] ≠ bytes2 (crc16 (frameBody dst src kind seq payload)).toNat) :
    verdictOn straps link dst src kind seq payload c1 c0 = .failed .crc := if_neg hne

theorem verdictOn_of_eq (heq : [c1, c0] = bytes2 (crc16 (frameBody dst src kind seq payload)).toNat) :
    verdictOn straps link dst src kind seq payload c1 c0 = checkHeader straps link dst src kind seq payload :=
  if_pos heq

theorem checkFrame_body (hp : payload.length ≤ 32) :
    checkFrame straps link (sync :: (frameBody dst src kind seq payload ++ [c1, c0])) =
      verdictOn straps link dst src kind seq payload c1 c0 := by
  have hlen : (byteOf (payload.length + 4)).toNat - 4 = payload.length := by rw [toNat_len hp, Nat.add_sub_cancel]
  unfold verdictOn frameBody
  simp only [List.cons_append, checkFrame]
  rw [hlen, List.take_left, List.drop_left]

/-- A frame without its last byte is collected, without a verdict. -/
theorem receiveBytes_unfinished (hp : payload.length ≤ 32) :
    receiveBytes straps link [] (sync :: (frameBody dst src kind seq payload ++ [c1])) =
      (sync :: (frameBody dst src kind seq payload ++ [c1]), []) := by
  have hlen := toNat_len hp
  exact receiveBytes_of_begun (by omega) (by omega) (by simp [hlen])

theorem receiveByte_last (hp : payload.length ≤ 32) :
    receiveByte straps link (sync :: (frameBody dst src kind seq payload ++ [c1])) c0 =
      ([], some (verdictOn straps link dst src kind seq payload c1 c0)) := by
  have hlen := toNat_len hp
  rw [← checkFrame_body hp]
  refine (receiveByte_of_eq c0 (by simp [hlen])).trans ?_
  simp [frameBody]

theorem frame_eq_append : sync :: (frameBody dst src kind seq payload ++ [c1, c0]) =
    sync :: (frameBody dst src kind seq payload ++ [c1]) ++ [c0] := by simp

/-- A formed frame is taken byte by byte, for the verdict on its header alone. -/
theorem receiveBytes_formFrame (hp : payload.length ≤ 32) :
    receiveBytes straps link [] (formFrame dst src kind seq payload) =
      ([], [checkHeader straps link dst src kind seq payload]) := by
  rw [formFrame, bytes2, frame_eq_append, receiveBytes_append, receiveBytes_unfinished hp]
  simp only [receiveBytes, receiveByte_last hp]
  rw [verdictOn_of_eq rfl]
  rfl

end Receiver

/-! ## The frame of a command (R178, R180) -/

/-- 12 "The frame": a field of two bytes is read back from them. -/
theorem half2_byteOf (h : Half) : half2 (byteOf (h.toNat / 256)) (byteOf h.toNat) = h := by
  have hlow : h.toNat % 256 < 2 ^ 8 := Nat.mod_lt _ (by decide)
  have hlt : h.toNat < 2 ^ 16 := h.isLt
  apply BitVec.eq_of_toNat_eq
  simp only [half2, byteOf, BitVec.toNat_append, BitVec.toNat_ofNat]
  rw [← Nat.shiftLeft_add_eq_or_of_lt hlow, Nat.shiftLeft_eq]
  omega

/-- R178 check 3, of SET_CONFIG. -/
theorem configBodyFits_iff {item : Byte} {body : List Byte} : configBodyFits item body = true ↔
    (item = 9 ∧ 1 ≤ body.length ∧ body.length ≤ 31) ∨ (item ≠ 9 ∧ body.length = 2) := by
  unfold configBodyFits
  split
  · next h =>
    obtain rfl : item = 9 := h
    simp
  · next h =>
    have hne : item ≠ 9 := h
    rw [beq_iff_eq]
    tauto

section Carrier

variable {c : Instr} {kind seq : Byte} {payload : List Byte}

theorem length_carried (hw : c.wellFormed = true) (hc : carrierOf c = some (link, kind, seq, payload)) :
    payload.length ≤ 32 := by
  cases c with
  | data => cases hc; exact Nat.le_succ_of_le (of_decide_eq_true hw)
  | dataDown => cases hc; exact Nat.succ_le_succ (of_decide_eq_true hw)
  | clearEvents => cases hc; exact Nat.succ_le_succ (of_decide_eq_true hw)
  | writePolicy _ _ record =>
    have hl : record.length = 26 := eq_of_beq hw
    cases hc
    simp [hl]
  | setConfig =>
    have hl := configBodyFits_iff.1 hw
    cases hc
    rw [List.length_cons]
    omega
  | _ => cases hc <;> simp [bytes2]

/-- The kind table gives back the command whose kind and payload a frame carries (R178 checks 2 and 3). -/
theorem commandOf?_carried (hw : c.wellFormed = true) (hc : carrierOf c = some (link, kind, seq, payload)) :
    commandOf? link kind seq payload = some c := by
  cases c with
  | data => cases hc; exact if_pos (of_decide_eq_true hw)
  | dataDown => cases hc; exact if_pos (of_decide_eq_true hw)
  | clearEvents => cases hc; exact if_pos (of_decide_eq_true hw)
  | writePolicy => cases hc; exact if_pos (eq_of_beq hw)
  | setConfig => cases hc; exact if_pos hw
  | budget _ amount urgency =>
    cases hc
    cases urgency <;> exact congrArg (fun a => some (Instr.budget seq a _)) (half2_byteOf amount)
  | present i cls peak => cases hc; exact congrArg (fun p => some (Instr.present i cls p)) (half2_byteOf peak)
  | claim i t want least =>
    cases hc
    exact congrArg₂ (fun w l => some (Instr.claim i t w l)) (half2_byteOf want) (half2_byteOf least)
  | adjust i t amount => cases hc; exact congrArg (fun a => some (Instr.adjust i t a)) (half2_byteOf amount)
  | report i t measured => cases hc; exact congrArg (fun m => some (Instr.report i t m)) (half2_byteOf measured)
  | forceShed _ i t target =>
    cases hc
    exact congrArg (fun a => some (Instr.forceShed seq i t a)) (half2_byteOf target)
  | _ => cases hc <;> rfl

/-- The header of the frame that carries a command passes R178's checks wherever its destination does. -/
theorem checkHeader_carried {straps : BitVec 2} {dst : Byte} (hw : c.wellFormed = true)
    (hc : carrierOf c = some (link, kind, seq, payload)) (hdst : destinationPasses straps link dst kind = true) :
    checkHeader straps link dst (requiredSource link kind) kind seq payload = .accepted c := by
  simp [checkHeader, hdst, commandOf?_carried hw hc]

end Carrier

/-- Settles O13: the frame is formed, and its header is the one that the checks ask for. -/
theorem receiverTakesFormedFrame : Obligations.ReceiverTakesFormedFrame := by
  intro straps c link bytes hw hframe
  obtain ⟨⟨carrier, kind, seq, payload⟩, hc, hbytes⟩ := Option.map_eq_some_iff.1 hframe
  obtain ⟨rfl, rfl⟩ := Prod.mk.inj hbytes
  rw [receiveBytes_formFrame (length_carried hw hc), checkHeader_carried hw hc]
  cases carrier <;> simp [destinationPasses]

/-! ## The kind table of the supply link (12 "Kind codes")

The rows of `supplyCommand?` look at kind and payload at once, eighteen ways. Here the kind is looked at first and the
payload by its row, so that a proof about a command of the table takes the rows one by one. The two tables are one by
unfolding; only smart unfolding, which leaves a match on variables folded, keeps `rfl` from seeing it. -/

section Rows

variable {c : Instr} {payload : List Byte} {P : Instr → Prop}

/-- A row whose payload is empty. -/
def ofNone? (c : Instr) : List Byte → Option Instr
  | [] => some c
  | _ => none

/-- A row whose payload is one byte. -/
def ofOne? (f : Byte → Instr) : List Byte → Option Instr
  | [a] => some (f a)
  | _ => none

/-- A row whose payload is two bytes. -/
def ofTwo? (f : Byte → Byte → Instr) : List Byte → Option Instr
  | [a, b] => some (f a b)
  | _ => none

/-- A row whose payload is three bytes. -/
def ofThree? (f : Byte → Byte → Byte → Option Instr) : List Byte → Option Instr
  | [a, b, c] => f a b c
  | _ => none

/-- A row whose payload is four bytes. -/
def ofFour? (f : Byte → Byte → Byte → Byte → Instr) : List Byte → Option Instr
  | [a, b, c, d] => some (f a b c d)
  | _ => none

/-- A row whose payload is a byte and the bytes after it. -/
def ofHead? (f : Byte → List Byte → Option Instr) : List Byte → Option Instr
  | a :: rest => f a rest
  | _ => none

theorem ofNone?_elim {x : Instr} (h : ofNone? x payload = some c) (hx : P x) : P c := by
  unfold ofNone? at h
  split at h
  · exact Option.some.inj h ▸ hx
  · cases h

theorem ofOne?_elim {f : Byte → Instr} (h : ofOne? f payload = some c) (hf : ∀ a, P (f a)) : P c := by
  unfold ofOne? at h
  split at h
  · exact Option.some.inj h ▸ hf _
  · cases h

theorem ofTwo?_elim {f : Byte → Byte → Instr} (h : ofTwo? f payload = some c) (hf : ∀ a b, P (f a b)) : P c := by
  unfold ofTwo? at h
  split at h
  · exact Option.some.inj h ▸ hf _ _
  · cases h

theorem ofThree?_elim {f : Byte → Byte → Byte → Option Instr} (h : ofThree? f payload = some c)
    (hf : ∀ a b d, f a b d = some c → P c) : P c := by
  unfold ofThree? at h
  split at h
  · exact hf _ _ _ h
  · cases h

theorem ofFour?_elim {f : Byte → Byte → Byte → Byte → Instr} (h : ofFour? f payload = some c)
    (hf : ∀ a b d e, P (f a b d e)) : P c := by
  unfold ofFour? at h
  split at h
  · exact Option.some.inj h ▸ hf _ _ _ _
  · cases h

theorem ofHead?_elim {f : Byte → List Byte → Option Instr} (h : ofHead? f payload = some c)
    (hf : ∀ a rest, f a rest = some c → P c) : P c := by
  unfold ofHead? at h
  split at h
  · exact hf _ _ h
  · cases h

/-- The kind table of the supply link, the kind looked at first (`supplyCommand?_eq_row`). -/
def supplyRow? (kind : Nat) (seq : Byte) (payload : List Byte) : Option Instr :=
  match kind with
  | 0x40 => ofThree? (fun b1 b0 u => (urgencyOf? u).map (.budget seq (half2 b1 b0))) payload
  | 0x50 => ofNone? (.queryStatus seq) payload
  | 0x51 => ofTwo? (.readEntry seq) payload
  | 0x52 => ofHead? (fun slot r => if r.length = 26 then some (.writePolicy seq slot r) else none) payload
  | 0x53 => ofNone? (.commit seq) payload
  | 0x54 => ofNone? (.discard seq) payload
  | 0x55 => ofHead? (fun item r => if configBodyFits item r then some (.setConfig seq item r) else none) payload
  | 0x56 => ofHead? (fun count r => if r.length ≤ 31 then some (.clearEvents seq count r) else none) payload
  | 0x57 => ofFour? (fun slot tag t1 t0 => .forceShed seq slot tag (half2 t1 t0)) payload
  | 0x58 => ofTwo? (.forceClose seq) payload
  | 0x59 => ofOne? (.forceCut seq) payload
  | 0x5A => ofOne? (.portReset seq) payload
  | 0x5B => ofOne? (.storeErase seq) payload
  | 0x5C => ofOne? (.storeSave seq) payload
  | 0x5D => ofOne? (.storeLoad seq) payload
  | 0x5E => ofNone? (.restart seq) payload
  | 0x5F => ofOne? .noticeAck payload
  | 0x60 => ofHead? (fun slot r => if r.length ≤ 31 then some (.dataDown seq slot r) else none) payload
  | _ => none

set_option smartUnfolding false in
theorem supplyCommand?_eq_row (kind : Nat) (seq : Byte) (payload : List Byte) :
    supplyCommand? kind seq payload = supplyRow? kind seq payload := rfl

end Rows

/-! ## The command that a frame carries (R178 checks 2 and 3) -/

section Carried

variable {c : Instr} {kind seq : Byte} {payload : List Byte}

/-- A well-formed command that a frame of this link carries. -/
def CarriedOn (link : Link) (c : Instr) : Prop := c.wellFormed = true ∧ ∃ k, carrierOf c = some (link, k)

theorem carriedOn_of_ite {p : Prop} [Decidable p] {x : Instr} (h : (if p then some x else none) = some c)
    (hx : p → CarriedOn link x) : CarriedOn link c := by
  obtain ⟨hp, hc⟩ := Option.ite_none_right_eq_some.1 h
  exact Option.some.inj hc ▸ hx hp

theorem carriedOn_of_moduleCommand? {i : Slot} {kind : Nat} (h : moduleCommand? i kind seq payload = some c) :
    CarriedOn (.slot i) c := by
  unfold moduleCommand? at h
  split at h
  case h_10 => exact carriedOn_of_ite h fun hl => ⟨decide_eq_true hl, _, rfl⟩
  case h_11 => cases h
  all_goals
    obtain rfl := Option.some.inj h
    exact ⟨rfl, _, rfl⟩

theorem carriedOn_of_supplyRow? {kind : Nat} (h : supplyRow? kind seq payload = some c) : CarriedOn .supply c := by
  unfold supplyRow? at h
  split at h
  case h_1 =>
    refine ofThree?_elim h fun _ _ _ hu => ?_
    obtain ⟨_, -, rfl⟩ := Option.map_eq_some_iff.1 hu
    exact ⟨rfl, _, rfl⟩
  case h_2 | h_5 | h_6 | h_16 => exact ofNone?_elim h ⟨rfl, _, rfl⟩
  case h_3 | h_10 => exact ofTwo?_elim h fun _ _ => ⟨rfl, _, rfl⟩
  case h_4 => exact ofHead?_elim h fun _ _ hr => carriedOn_of_ite hr fun hl => ⟨beq_of_eq hl, _, rfl⟩
  case h_7 => exact ofHead?_elim h fun _ _ hr => carriedOn_of_ite hr fun hl => ⟨hl, _, rfl⟩
  case h_8 | h_18 => exact ofHead?_elim h fun _ _ hr => carriedOn_of_ite hr fun hl => ⟨decide_eq_true hl, _, rfl⟩
  case h_9 => exact ofFour?_elim h fun _ _ _ _ => ⟨rfl, _, rfl⟩
  case h_19 => cases h
  all_goals exact ofOne?_elim h fun _ => ⟨rfl, _, rfl⟩

/-- The kind table gives well-formed commands of the frame's own link alone. -/
theorem carriedOn_of_commandOf? (h : commandOf? link kind seq payload = some c) : CarriedOn link c := by
  cases link with
  | slot i => exact carriedOn_of_moduleCommand? h
  | supply => exact carriedOn_of_supplyRow? ((supplyCommand?_eq_row _ _ _).symm.trans h)

/-! ## A frame is taken alike whether or not its receiver hunts already (R176) -/

theorem hunt_hunt : (s.hunt link).hunt link = s.hunt link := setReceiver_setReceiver _ _ _

theorem receives_setReceiver (r : Receiver) : (s.setReceiver link r).receives link = s.receives link := by
  cases link with
  | slot i => simp [State.receives, State.setReceiver, State.onPort, State.active, State.setPort, State.port]
  | supply => rfl

theorem receives_hunt (h : s.receives link = true) : (s.hunt link).receives link = true :=
  (receives_setReceiver _).trans h

theorem moduleFrame_hunt {i : Slot} {f : State → State} (h : s.receives (.slot i) = true) :
    moduleFrame i f (s.hunt (.slot i)) = moduleFrame i f s := by
  rw [moduleFrame, moduleFrame, if_pos h, if_pos (receives_hunt h), hunt_hunt]

theorem takePresent_hunt {i : Slot} {d : Declared} (h : s.receives (.slot i) = true) :
    takePresent i d (s.hunt (.slot i)) = takePresent i d s := by
  rw [takePresent, takePresent, if_pos h, if_pos (receives_hunt h), hunt_hunt]

theorem supplyFrame_hunt {f : State → State} (h : s.receives .supply = true) :
    supplyFrame f (s.hunt .supply) = supplyFrame f s := by
  rw [supplyFrame, supplyFrame, if_pos h, if_pos (receives_hunt h), hunt_hunt]

theorem takeCommand_hunt {q : Byte} {run : State → State × Settle} (h : s.receives .supply = true) :
    takeCommand q run (s.hunt .supply) = takeCommand q run s :=
  supplyFrame_hunt h

theorem takeFrame_hunt {k : Byte × Byte × List Byte} (hc : carrierOf c = some (link, k))
    (h : s.receives link = true) : takeFrame c (s.hunt link) = takeFrame c s := by
  cases c with
  | claim | accept | decline | release | adjust | renew | report | comply | data =>
    cases hc
    exact moduleFrame_hunt h
  | present => cases hc; exact takePresent_hunt h
  | budget | noticeAck | dataDown => cases hc; exact supplyFrame_hunt h
  | frameReceiveError | byteGapTimeout | offerDeadline | leaseExpiry | waitDeadline | staleDeadline | shedDeadline
  | reportDeadline | penaltyEndTime | probeDeadline | answerDeadline | retransmitDeadline | storeEraseCompletion
  | storeSaveCompletion | storeLoadCompletion | slotTransmissionBegin | slotTransmissionSent
  | upstreamTransmissionBegin | upstreamTransmissionSent | restartTakesEffect | hardReset | startUpScanEnd => cases hc
  | _ => cases hc; exact takeCommand_hunt h

/-- An accepted frame does what the row of its command does. -/
theorem takeFrame_commandOf? (h : s.receives link = true) (hc : commandOf? link kind seq payload = some c) :
    .next (takeFrame c (s.hunt link)) = exec c s := by
  obtain ⟨hw, k, hk⟩ := carriedOn_of_commandOf? hc
  rw [takeFrame_hunt hk h, exec_eq_takeFrame (by simp [hk]) hw]

end Carried

/-! ## Bytes that arrive (R176, R179) -/

section Arriving

variable {first got : List Byte} {b : Byte} {v : Verdict}

theorem straps_setReceiver (r : Receiver) : (s.setReceiver link r).straps = s.straps := by cases link <;> rfl

theorem setReceiver_self : s.setReceiver link (s.receiver link) = s := by
  cases link with
  | slot i => exact onPort_eq_self (f := fun p => { p with receiver := (s.port i).receiver }) rfl
  | supply => rfl

theorem receives_of_active (ha : s.active = true) (hl : ∀ i, link = .slot i → (s.port i).state ≠ .disabled) :
    s.receives link = true := by
  cases link with
  | slot i => exact receives_slot ha (hl i rfl)
  | supply => exact ha

/-- Bytes that end no frame change the receiver alone. -/
theorem receiveAll_of_no_verdict : ∀ {s : State}, s.receives link = true →
    receiveBytes s.straps link (s.receiver link).bytes first = (got, []) →
      ∃ d, first.foldl (receiveOn link) s = s.setReceiver link ⟨got, d⟩ := by
  induction first with
  | nil =>
    intro s _ hr
    obtain rfl : (s.receiver link).bytes = got := congrArg Prod.fst hr
    exact ⟨(s.receiver link).gapDeadline, setReceiver_self.symm⟩
  | cons b rest ih =>
    intro s h hr
    rcases hb : receiveByte s.straps link (s.receiver link).bytes b with ⟨got₁, v₁⟩
    rcases hrest : receiveBytes s.straps link got₁ rest with ⟨got₂, vs⟩
    simp only [receiveBytes, hb, hrest, Prod.mk.injEq, List.append_eq_nil_iff, Option.toList_eq_nil_iff] at hr
    obtain ⟨rfl, rfl, rfl⟩ := hr
    rw [List.foldl_cons, receiveOn_of_receives h hb]
    obtain ⟨d, hd⟩ := ih (s := s.setReceiver link ⟨got₁, if got₁.isEmpty then none else some (s.now + byteGap)⟩)
      ((receives_setReceiver _).trans h) (by rw [straps_setReceiver, receiver_setReceiver, hrest])
    exact ⟨d, hd.trans (setReceiver_setReceiver _ _ _)⟩

/-- A frame whose last byte gives its verdict is judged in the state in which its receiver hunts. -/
theorem receiveAll_of_verdict (h : s.receives link = true)
    (hfirst : receiveBytes s.straps link (s.receiver link).bytes first = (got, []))
    (hlast : receiveByte s.straps link got b = ([], some v)) :
    (first ++ [b]).foldl (receiveOn link) s = takeVerdict link v (s.hunt link) := by
  obtain ⟨d, hd⟩ := receiveAll_of_no_verdict h hfirst
  rw [List.foldl_append, hd, List.foldl_cons, List.foldl_nil,
    receiveOn_of_receives (got := []) (v := some v) ((receives_setReceiver _).trans h)
      (by rw [straps_setReceiver, receiver_setReceiver, hlast])]
  exact congrArg (takeVerdict link v) (setReceiver_setReceiver _ _ _)

theorem abandonFrame_of_gap {d : Time} (h : s.receives link = true) (hd : (s.receiver link).gapDeadline = some d) :
    abandonFrame link s = (s.reach d).withError link .framing := by
  rw [abandonFrame, if_pos h, hd]
  exact linkError_hunt link .framing

section Hunting

variable (h : s.receives link = true) (hb : (s.receiver link).bytes = [])

include h hb

theorem receiveAll_frame {dst src kind seq c1 c0 : Byte} {payload : List Byte} (hp : payload.length ≤ 32) :
    (sync :: (frameBody dst src kind seq payload ++ [c1, c0])).foldl (receiveOn link) s =
      takeVerdict link (verdictOn s.straps link dst src kind seq payload c1 c0) (s.hunt link) := by
  rw [frame_eq_append]
  exact receiveAll_of_verdict h (by rw [hb, receiveBytes_unfinished hp]) (receiveByte_last hp)

theorem receiveAll_formFrame {dst src kind seq : Byte} {payload : List Byte} (hp : payload.length ≤ 32) :
    (formFrame dst src kind seq payload).foldl (receiveOn link) s =
      takeVerdict link (checkHeader s.straps link dst src kind seq payload) (s.hunt link) :=
  (receiveAll_frame h hb hp).trans (by rw [verdictOn_of_eq rfl])

theorem receiveAll_bad_crc {dst src kind seq c1 c0 : Byte} {payload : List Byte} (hp : payload.length ≤ 32)
    (hne : [c1, c0] ≠ bytes2 (crc16 (frameBody dst src kind seq payload)).toNat) :
    (sync :: (frameBody dst src kind seq payload ++ [c1, c0])).foldl (receiveOn link) s = s.withError link .crc := by
  rw [receiveAll_frame h hb hp, verdictOn_of_ne hne]
  exact linkError_hunt link .crc

theorem receiveAll_bad_len (hlen : b.toNat < 4 ∨ 36 < b.toNat) :
    [sync, b].foldl (receiveOn link) s = s.withError link .framing := by
  have hrange : (decide (b.toNat < 4) || decide (36 < b.toNat)) = true := by simpa using hlen
  have hfirst : receiveBytes s.straps link (s.receiver link).bytes [sync] = ([sync], []) := by rw [hb]; rfl
  exact (receiveAll_of_verdict h hfirst (if_pos hrange)).trans (linkError_hunt link .framing)

theorem receiveOn_not_sync (hne : b ≠ sync) : receiveOn link s b = s.hunt link :=
  receiveOn_of_receives (v := none) h (by rw [hb]; exact congrArg (·, none) (if_neg hne))

theorem receiveOn_sync : receiveOn link s sync = s.setReceiver link ⟨[sync], some (s.now + byteGap)⟩ :=
  receiveOn_of_receives (v := none) h (by rw [hb]; rfl)

end Hunting

end Arriving

/-! ## What becomes of a frame whose CRC agrees (R178, R179) -/

section Verdicts

variable {dst src kind seq : Byte} {payload : List Byte} {straps : BitVec 2} {c : Instr}

theorem takeVerdict_of_not_passes (hd : ¬ destinationPasses straps link dst kind = true) :
    takeVerdict link (checkHeader straps link dst src kind seq payload) s = s := by
  rw [checkHeader, if_pos (by simpa using hd)]
  rfl

variable (hd : destinationPasses straps link dst kind = true)

include hd

theorem takeVerdict_of_no_command (hc : commandOf? link kind seq payload = none) :
    takeVerdict link (checkHeader straps link dst src kind seq payload) (s.hunt link) = s.withError link .framing := by
  simp only [checkHeader, hd, hc, Bool.not_true, Bool.false_eq_true, if_false]
  exact linkError_hunt link .framing

/-- A frame for the part with a command does what the command's row does, if its source is the one of its kind. -/
theorem takeVerdict_of_command (h : s.receives link = true) (hc : commandOf? link kind seq payload = some c) :
    Host.Outcome.next (takeVerdict link (checkHeader straps link dst src kind seq payload) (s.hunt link)) =
      if src = requiredSource link kind then exec c s else .next (s.withError link .framing) := by
  simp only [checkHeader, hd, hc, Bool.not_true, Bool.false_eq_true, if_false]
  split
  · exact takeFrame_commandOf? h hc
  · exact congrArg _ (linkError_hunt link .framing)

end Verdicts

/-- R178 check 3, of BUDGET. -/
theorem map_urgencyOf? {α : Type} (u : Byte) (f : Urgency → α) :
    (urgencyOf? u).map f = if u = 0 then some (f .normal) else if u = 1 then some (f .immediate) else none := by
  unfold urgencyOf?
  split
  · next h =>
    obtain rfl : u = 0 := BitVec.eq_of_toNat_eq h
    rfl
  · next h =>
    obtain rfl : u = 1 := BitVec.eq_of_toNat_eq h
    rfl
  · next h0 h1 =>
    rw [if_neg (by rintro rfl; exact h0 rfl), if_neg (by rintro rfl; exact h1 rfl)]
    rfl

/-- Settles O58: the statement's terms are those of the receive checks, and its clauses the cases of a run of bytes. -/
theorem receiveErrorsAreCounted : Obligations.ReceiveErrorsAreCounted := by
  refine ⟨by decide +kernel, ?_⟩
  intro s link dst src kind seq c1 c0 b payload first second hactive hslot hp r body crc arrives framing addressed
    source command
  have h : s.receives link = true := receives_of_active hactive hslot
  have hcommand : commandOf? link kind seq payload = command := by
    cases link with
    | slot i =>
      set_option smartUnfolding false in
      rfl
    | supply =>
      rw [commandOf?, supplyCommand?_eq_row]
      unfold supplyRow?
      simp only [map_urgencyOf?, configBodyFits_iff]
      set_option smartUnfolding false in
      rfl
  clear_value command
  have hsource : requiredSource link kind = source := by cases link <;> rfl
  have haddressed : destinationPasses s.straps link dst kind = true ↔ addressed := by
    cases link <;> simp [destinationPasses, addressed, slotLinkAddress, partAddress, broadcastAddress, budgetKind]
  refine ⟨fun hb => ⟨fun hne => ?_, fun hother => ?_, fun hown => ?_, fun hlen => ?_, fun hne => ?_, ?_⟩, ?_,
    fun d hd => ?_⟩
  · exact congrArg _ (receiveAll_bad_crc h hb hp hne)
  · exact congrArg _ ((receiveAll_formFrame h hb hp).trans (takeVerdict_of_not_passes (mt haddressed.1 hother)))
  · have hpasses := haddressed.2 hown
    have hframe : arrives (0xC3 :: (body ++ crc)) =
        .next (takeVerdict link (checkHeader s.straps link dst src kind seq payload) (s.hunt link)) :=
      congrArg _ (receiveAll_formFrame h hb hp)
    rw [hframe]
    cases command with
    | none => exact congrArg _ (takeVerdict_of_no_command hpasses hcommand)
    | some c => exact (takeVerdict_of_command hpasses h hcommand).trans (by rw [hsource])
  · exact congrArg _ (receiveAll_bad_len h hb hlen)
  · exact congrArg _ (receiveOn_not_sync h hb hne)
  · exact congrArg _ (receiveOn_sync h hb)
  · exact ⟨_, rfl, congrArg _ (List.foldl_append ..)⟩
  · exact congrArg _ (abandonFrame_of_gap h hd)

end Sys2Proof.Machine
